-- ==== Sys2Proof/Word.lean ====
section
/-! DEFINITION. The widths of the block (spec 00_scope.md R8, R10): every quantity that the host or the sensor sees as
bits is a bit vector of the width the spec fixes. -/

namespace Sys2Proof

/-- A host register, R8. -/
abbrev Word := BitVec 32

/-- Register data, a sensor register address, R8. -/
abbrev Byte := BitVec 8

/-- A target rate, a batch size, a cached FIFO count, a raw code, a bus failure code, R8 and R14. -/
abbrev Half := BitVec 16

/-- A device address on the bus, R8. -/
abbrev DevAddr := BitVec 7

/-- A byte offset inside the host window; the block decodes bits [14:0] only (20_memory.md R61). -/
abbrev Offset := BitVec 15

end Sys2Proof
end

