-- ==== Sys2Proof/Config.lean ====
section
/-! DEFINITION. What an implementation fixes (spec 00_scope.md R7, 20_memory.md R70) and the free values, which have no
body: nothing can evaluate them, so a statement about them holds for every value. -/

namespace Sys2Proof.Config

/-- R7: largest payload of one block read, in bytes. -/
abbrev P_BLOCK_MAX : Nat := 32

/-- R7: bytes of one raw frame. -/
abbrev P_FRAME : Nat := 6

/-- R7 and R145: the largest multiple of a frame that fits in one block read. -/
abbrev P_MAX_BURST : Nat := P_FRAME * (P_BLOCK_MAX / P_FRAME)

/-- R7: base sample rate of the sensor, in Hz. -/
abbrev P_BASE_RATE : Nat := 8000

/-- R7: denominator of the scale factor. -/
abbrev P_SCALE_DEN : Nat := 32768

/-- R7: largest legal divisor. -/
abbrev P_DIV_MAX : Nat := 255

/-- R7: capacity of the sample memory, in samples. -/
abbrev P_NMAX : Nat := 2048

/-- R7, `P_BUS_KIND`: the wire protocol of the bus. -/
inductive BusKind where
  | i2c
  | spi
deriving DecidableEq, Repr

/-- The parameters that a model takes as an argument (R7, and the table of 20_memory.md R70). The field names are the
spec's. A settle duration is a number without a unit, since the model keeps no time (70_reset_and_hazards.md R256). -/
structure Params where
  P_BUS_KIND : BusKind
  P_BASE : Nat
  P_SHORT_READ : Bool
  P_SETTLE : Nat
  P_RESET_SETTLE : Nat
  A_PWR_MGMT_1 : Byte
  A_SMPLRT_DIV : Byte
  A_ACCEL_CONFIG : Byte
  A_INT_ENABLE : Byte
  A_INT_STATUS : Byte
  A_USER_CTRL : Byte
  A_FIFO_EN : Byte
  A_FIFO_COUNTH : Byte
  A_FIFO_COUNTL : Byte
  A_FIFO_R_W : Byte
  V_DEVICE_RESET : Byte
  V_CLK_PLL : Byte
  V_INT_ENABLE : Byte
  V_UC_OFF : Byte
  V_UC_FIFO_RESET : Byte
  V_UC_FIFO_ON : Byte
  V_FIFO_EN_ACCEL : Byte
  V_FIFO_EN_OFF : Byte
  B_DRDY : Fin 8
  B_OFLOW : Fin 8
deriving DecidableEq, Repr

/-- What the spec requires of any choice of parameters: `B_DRDY != B_OFLOW` (20_memory.md R70) and a base aligned to
0x8000 (20_memory.md R61). -/
abbrev Params.Legal (p : Params) : Prop :=
  p.B_DRDY ≠ p.B_OFLOW ∧ p.P_BASE % 0x8000 = 0

/-- The default values of 20_memory.md R70 (the MPU-6050 map, marked by the spec as general knowledge: PRESUMED, log 5,
unsafe for a sensor with another map) and `P_SHORT_READ = false` (R7). The OPEN parameters stand at a value no rule
reads (DESIGN CHOICE, log 6, safe). -/
def Params.default : Params where
  P_BUS_KIND := .i2c
  P_BASE := 0
  P_SHORT_READ := false
  P_SETTLE := 0
  P_RESET_SETTLE := 0
  A_PWR_MGMT_1 := 0x6B
  A_SMPLRT_DIV := 0x19
  A_ACCEL_CONFIG := 0x1C
  A_INT_ENABLE := 0x38
  A_INT_STATUS := 0x3A
  A_USER_CTRL := 0x6A
  A_FIFO_EN := 0x23
  A_FIFO_COUNTH := 0x72
  A_FIFO_COUNTL := 0x73
  A_FIFO_R_W := 0x74
  V_DEVICE_RESET := 0x80
  V_CLK_PLL := 0x01
  V_INT_ENABLE := 0x11
  V_UC_OFF := 0x00
  V_UC_FIFO_RESET := 0x04
  V_UC_FIFO_ON := 0x40
  V_FIFO_EN_ACCEL := 0x08
  V_FIFO_EN_OFF := 0x00
  B_DRDY := 0
  B_OFLOW := 4

/-- One draw of the sensor agent (00_scope.md R9): the transaction succeeds, with the bytes it delivers, or fails with a
16-bit code. The bus primitives fit the bytes to what the transaction asked for (R14, log 3). -/
inductive SensorAnswer where
  | ok (bytes : List Byte)
  | err (code : Half)
deriving DecidableEq, Repr, Inhabited

/-- The sensor's answer to draw `n` when State lists none: free (00_scope.md R9, 20_memory.md R72; log 2, safe). -/
opaque freeAnswer : Nat → SensorAnswer

/-- Byte `i` of the answer to draw `n` where the listed answer holds fewer bytes than the transaction delivers: free
(00_scope.md R14; log 3, safe). -/
opaque freeByte : Nat → Nat → Byte

/-- `fs_code(r)` for r other than 2, 4, 8, 16: 41_sensor_driver.md R144 calls it undefined, R131 keeps it from being
reached (log 12, safe). -/
opaque freeFsCode : Byte → Byte

/-- `divcalc(0)`: 41_sensor_driver.md R140 defines it for t >= 1 only, R131 keeps it from being reached (log 12,
safe). -/
opaque freeDivisor : Byte

end Sys2Proof.Config
end

