-- ==== Sys2Proof/Syntax.lean ====
section
/-! DEFINITION. The commands of the block (spec 30_encoding.md R93, R100): one constructor for each row of
opcode_table.json, with the fields its row uses. A field an opcode ignores (R97) is no part of the command. -/

namespace Sys2Proof

inductive Instr where
  /-- 43_control.md R200. -/
  | nop
  /-- 40_bus_primitive.md R110: `reg` = REG, `data` = ARG. -/
  | wrreg (reg data : Byte)
  /-- 40_bus_primitive.md R112. -/
  | rdreg (reg : Byte)
  /-- 40_bus_primitive.md R114: `len` = ARG. -/
  | rdblk (reg len : Byte)
  /-- 41_sensor_driver.md R130. -/
  | init
  /-- 41_sensor_driver.md R132. -/
  | fifoOn
  /-- 41_sensor_driver.md R133. -/
  | fifoOff
  /-- 41_sensor_driver.md R134. -/
  | fifoReset
  /-- 41_sensor_driver.md R135. -/
  | rdstatus
  /-- 41_sensor_driver.md R136. -/
  | rdcount
  /-- 41_sensor_driver.md R137. -/
  | drain
  /-- 41_sensor_driver.md R138: `len` = ARG. -/
  | decodeFrame (len : Byte)
  /-- 42_batch_sampler.md R170. -/
  | acquire
deriving DecidableEq, Repr

end Sys2Proof
end

