-- ==== Sys2Proof/WellFormed.lean ====
section
/-! DEFINITION. Which commands the assembler syntax of spec 30_encoding.md R100 admits. Operands are bytes by their
type; the one check left is the block length. -/

namespace Sys2Proof

/-- 30_encoding.md R98: a block read asks for 1 to `P_BLOCK_MAX` bytes. -/
def blockLengthOk (len : Byte) : Bool :=
  decide (1 ≤ len.toNat) && decide (len.toNat ≤ Config.P_BLOCK_MAX)

/-- R100. `DECODE` takes any length: R98 gives it no length check. -/
def Instr.wf : Instr → Bool
  | .nop => true
  | .wrreg _ _ => true
  | .rdreg _ => true
  | .rdblk _ len => blockLengthOk len
  | .init => true
  | .fifoOn => true
  | .fifoOff => true
  | .fifoReset => true
  | .rdstatus => true
  | .rdcount => true
  | .drain => true
  | .decodeFrame _ => true
  | .acquire => true

/-- The well-formed commands. -/
abbrev WellFormed (i : Instr) : Prop := i.wf = true

end Sys2Proof
end

