-- ==== Sys2Proof/Decode.lean ====
section
/-! DEFINITION. The command word (spec 30_encoding.md R90 to R99): its fields, the decoder, total on every 32-bit word,
and the encoder of R100. -/

namespace Sys2Proof

/-- OP, bits [3:0] (R91). -/
def opField (w : Word) : BitVec 4 := w.extractLsb' 0 4

/-- RSV0, bits [7:4] (R91). -/
def rsv0Field (w : Word) : BitVec 4 := w.extractLsb' 4 4

/-- REG, bits [15:8] (R91, R92). -/
def regField (w : Word) : Byte := w.extractLsb' 8 8

/-- ARG, bits [23:16] (R91, R92). -/
def argField (w : Word) : Byte := w.extractLsb' 16 8

/-- RSV1, bits [31:24] (R91). -/
def rsv1Field (w : Word) : Byte := w.extractLsb' 24 8

/-- Why a word is no command. -/
inductive DecodeError where
  /-- R95: OP is 0xD, 0xE or 0xF. -/
  | reservedOpcode
  /-- R96: RSV0 or RSV1 is not 0. -/
  | reservedBits
deriving DecidableEq, Repr

/-- The opcode map of R93; `none` for the reserved opcodes. -/
def instrOf (op : BitVec 4) (reg arg : Byte) : Option Instr :=
  match op.toNat with
  | 0x0 => some .nop
  | 0x1 => some (.wrreg reg arg)
  | 0x2 => some (.rdreg reg)
  | 0x3 => some (.rdblk reg arg)
  | 0x4 => some .init
  | 0x5 => some .fifoOn
  | 0x6 => some .fifoOff
  | 0x7 => some .fifoReset
  | 0x8 => some .rdstatus
  | 0x9 => some .rdcount
  | 0xA => some .drain
  | 0xB => some (.decodeFrame arg)
  | 0xC => some .acquire
  | _ => none

/-- Decode one command word: checks 3 and 4 of R99, in that order. Check 5, the length of a block read, is the first
statement of RDBLK (40_bus_primitive.md R114 lists it among that command's exceptions; log 13, safe). -/
def decode (w : Word) : Except DecodeError Instr :=
  match instrOf (opField w) (regField w) (argField w) with
  | none => .error .reservedOpcode
  | some i => if rsv0Field w = 0 ∧ rsv1Field w = 0 then .ok i else .error .reservedBits

/-- The opcode of a command (R93). -/
def Instr.opcode : Instr → BitVec 4
  | .nop => 0x0
  | .wrreg _ _ => 0x1
  | .rdreg _ => 0x2
  | .rdblk _ _ => 0x3
  | .init => 0x4
  | .fifoOn => 0x5
  | .fifoOff => 0x6
  | .fifoReset => 0x7
  | .rdstatus => 0x8
  | .rdcount => 0x9
  | .drain => 0xA
  | .decodeFrame _ => 0xB
  | .acquire => 0xC

/-- The REG field the encoder writes: 0 where the syntax of R100 has none. -/
def Instr.regOperand : Instr → Byte
  | .nop => 0
  | .wrreg reg _ => reg
  | .rdreg reg => reg
  | .rdblk reg _ => reg
  | .init => 0
  | .fifoOn => 0
  | .fifoOff => 0
  | .fifoReset => 0
  | .rdstatus => 0
  | .rdcount => 0
  | .drain => 0
  | .decodeFrame _ => 0
  | .acquire => 0

/-- The ARG field the encoder writes: 0 where the syntax of R100 has none. -/
def Instr.argOperand : Instr → Byte
  | .nop => 0
  | .wrreg _ data => data
  | .rdreg _ => 0
  | .rdblk _ len => len
  | .init => 0
  | .fifoOn => 0
  | .fifoOff => 0
  | .fifoReset => 0
  | .rdstatus => 0
  | .rdcount => 0
  | .drain => 0
  | .decodeFrame len => len
  | .acquire => 0

/-- The word of a command, R100: `enc = (arg << 16) | (reg << 8) | op`, laid out as R91 draws it. -/
def encode (i : Instr) : Word :=
  (0 : Byte) ++ i.argOperand ++ i.regOperand ++ (0 : BitVec 4) ++ i.opcode

/-- The command word that the opcode table numbers as `w` of `nbits` bits; bits above `nbits` are 0. -/
def tableWord (nbits w : Nat) : Word :=
  BitVec.ofNat 32 (w % 2 ^ nbits)

/-- What the decoder reads from the table's word. -/
def decodeTableWord (nbits w : Nat) : Option Instr :=
  match decode (tableWord nbits w) with
  | .ok i => some i
  | .error _ => none

end Sys2Proof
end

