-- ==== Sys2Proof/Machine/State.lean ====
section
/-! DEFINITION. The state of the block (spec 10_state.md) with the three agents of 00_scope.md R9, as plain data, the
reasons a step can stop, and the state after reset (70_reset_and_hazards.md R241). -/

namespace Sys2Proof.Machine

open Sys2Proof.Config

/-- The Batch Sampler's state, STATUS.SSTATE (10_state.md R31); values 5, 6, 7 are never produced and have no
constructor. -/
inductive SState where
  | idle
  | fifoArmed
  | accumulating
  | complete
  | overflow
deriving DecidableEq, Repr

/-- ERRINFO.ERRCODE (60_exceptions.md R210); values 7 to 15 are never produced and have no constructor. -/
inductive ErrKind where
  | none
  | configuration
  | fifoOverflow
  | framing
  | bus
  | illegalCommand
  | notInitialized
deriving DecidableEq, Repr

/-- ERRINFO (10_state.md R34). -/
structure ErrInfo where
  kind : ErrKind
  subCause : BitVec 4
  errStep : Byte
  busErr : Half
deriving DecidableEq, Repr

/-- ERRINFO = 0: no error. -/
def ErrInfo.zero : ErrInfo := ⟨.none, 0, 0, 0⟩

/-- The sub-state of ACQUIRE (42_batch_sampler.md R181): the phase whose step comes next. `none`: no ACQUIRE is
running (10_state.md R47). DEDUCED (log 26): R181's POLL row names a next phase OVF that has no row and no step of its own;
there is no such constructor, and a poll that sees the overflow bit goes on to `abort` (60_exceptions.md R213, R215). -/
inductive Phase where
  | none
  | start
  | arm0
  | arm1
  | arm2
  | arm3
  | settle
  | poll
  | cnth
  | cntl
  | drain
  | finish
  | doneComplete
  | abort
  | idleEnd
deriving DecidableEq, Repr

/-- A bus transaction as issued (00_scope.md R14, 20_memory.md R68). -/
inductive BusReq where
  | write (dev : DevAddr) (reg value : Byte)
  | read (dev : DevAddr) (reg : Byte)
  | readBlock (dev : DevAddr) (reg : Byte) (n : Nat)
deriving DecidableEq, Repr

/-- A transaction that has ended: what was asked and what came back. -/
structure Transaction where
  req : BusReq
  ans : SensorAnswer
deriving DecidableEq, Repr

/-- A statement of a host program (30_encoding.md R101, R102). `width` is in bytes; the block supports 4 only
(20_memory.md R63). -/
inductive HostStmt where
  | ld (off : Offset) (width : Nat)
  | st (off : Offset) (width : Nat) (v : Word)
  | poll
deriving DecidableEq, Repr

/-- Whose event comes next (20_memory.md R73, 70_reset_and_hazards.md R240). -/
inductive Turn where
  | host
  | sequencer
  | reset
deriving DecidableEq, Repr

/-- The storage behind the array ranges of the host window, DATABUF and SAMPLES: byte offset and byte, in canonical
form (addresses strictly rising, no zero byte listed). An unlisted byte reads 0: the reset value of DATABUF (10_state.md
R45), and for the sample memory, whose reset contents are unspecified and unobservable, a DESIGN CHOICE (log 7,
safe). -/
abbrev Memory := List Host.Cell

/-- Every piece of state of 10_state.md R20, then the model's own fields (INVENTORY.md lists each with its rule). -/
structure State where
  /-- CMD and the internal `cmd` (10_state.md R25, R47). -/
  cmd : Word
  /-- STATUS (10_state.md R26 to R33). -/
  busy : Bool
  done : Bool
  initDone : Bool
  sstate : SState
  cmdRejected : Bool
  errSticky : Bool
  cntMisaligned : Bool
  fifoDisableFailed : Bool
  lastIntStatus : Byte
  /-- ERRINFO (R34). -/
  errInfo : ErrInfo
  /-- CFG_DEV (R35). -/
  busAddr : DevAddr
  rangeG : Byte
  /-- CFG_RATE (R36). -/
  targetRate : Half
  /-- CFG_BATCH (R37). -/
  nsamp : Half
  /-- DIVISOR (R38). -/
  divisor : Byte
  /-- SCALE (R39). -/
  fsCode : Byte
  range : Byte
  /-- FIFOCNT (R40). -/
  fifoCnt : Half
  /-- SAMPCNT (R42). -/
  sampCnt : Half
  /-- RDATA (R43). -/
  rdByte : Byte
  lastLen : BitVec 6
  /-- DEC_XY, DEC_Z (R44). -/
  decX : Half
  decY : Half
  decZ : Half
  /-- DATABUF and the sample memory (R45, R46, R47). -/
  mem : Memory
  /-- The internal elements (R47). -/
  acc : List Byte
  nlat : Half
  dev : DevAddr
  stepIx : Nat
  xcount : Nat
  phase : Phase
  /-- The model's own: the local `h` of read_count between its two reads (41_sensor_driver.md R147; log 8). -/
  cntHigh : Byte
  /-- The model's own: the parameters of the machine (00_scope.md R7; log 5), which no step changes. -/
  params : Params
  /-- The model's own, the sensor agent: its coming answers and the number drawn so far (log 2). -/
  sensor : List SensorAnswer
  draws : Nat
  /-- The model's own: the transactions issued, newest first (log 4). -/
  trace : List Transaction
  /-- The model's own, the host agent: its statements to come, and the words its reads returned, newest first
  (log 4, log 14). -/
  host : List HostStmt
  loads : List Word
  /-- The model's own: whose events come next (log 1). -/
  turns : List Turn
deriving DecidableEq, Repr

/-- A fault would stop the machine. The spec gives the block no such event: every error is an error completion after
which the block accepts the next command (60_exceptions.md R213, R223), so there is no constructor. Safe. -/
inductive Fault where
deriving DecidableEq, Repr

/-- The reasons a step is refused. -/
inductive Refusal where
  /-- Raised by an arm of exec for an instruction without a meaning; none is left. Safe. -/
  | notModelled (mnemonic : String)
  /-- Raised by the host's turn for an access that is not 32 bits wide at a multiple of 4: 20_memory.md R63 "has no
  behaviour in this spec. A model refuses it". Safe. -/
  | unsupportedHostAccess
deriving DecidableEq, Repr

/-- The machine right after reset (70_reset_and_hazards.md R241). The model's own fields stand at the values that
log 2, 4, 5, 6, 8 and 14 name. -/
def State.reset : State where
  cmd := 0
  busy := false
  done := false
  initDone := false
  sstate := .idle
  cmdRejected := false
  errSticky := false
  cntMisaligned := false
  fifoDisableFailed := false
  lastIntStatus := 0
  errInfo := .zero
  busAddr := 0
  rangeG := 0
  targetRate := 0
  nsamp := 0
  divisor := 0
  fsCode := 0
  range := 0
  fifoCnt := 0
  sampCnt := 0
  rdByte := 0
  lastLen := 0
  decX := 0
  decY := 0
  decZ := 0
  mem := []
  acc := []
  nlat := 0
  dev := 0
  stepIx := 0
  xcount := 0
  phase := .none
  cntHigh := 0
  params := .default
  sensor := []
  draws := 0
  trace := []
  host := []
  loads := []
  turns := []

end Sys2Proof.Machine
end

