-- ==== Sys2Proof/Machine/Flags.lean ====
section
/-! DEFINITION. Flags: the encodings of SSTATE and ERRCODE, the STATUS and ERRINFO words a host reads, the write-1-to-clear
bits, and the tests the block makes on a status byte and on a count (spec 10_state.md R26 to R34, R50). -/

namespace Sys2Proof.Machine

open Sys2Proof.Config

/-- The value of STATUS.SSTATE, R31. -/
def SState.code : SState → BitVec 3
  | .idle => 0
  | .fifoArmed => 1
  | .accumulating => 2
  | .complete => 3
  | .overflow => 4

/-- The value of ERRINFO.ERRCODE, 60_exceptions.md R210. -/
def ErrKind.code : ErrKind → BitVec 4
  | .none => 0
  | .configuration => 1
  | .fifoOverflow => 2
  | .framing => 3
  | .bus => 4
  | .illegalCommand => 5
  | .notInitialized => 6

/-- ERRINFO as a word, R34: BUSERR [31:16], ERRSTEP [15:8], SUBCAUSE [7:4], ERRCODE [3:0]. -/
def ErrInfo.word (e : ErrInfo) : Word :=
  e.busErr ++ e.errStep ++ e.subCause ++ e.kind.code

/-- STATUS.ERR is a view of ERRINFO, R29. -/
def State.err (s : State) : Bool := s.errInfo.kind.code != 0

/-- STATUS as a word, R26, most significant field first; the reserved fields are 0. -/
def State.statusWord (s : State) : Word :=
  (0 : Byte) ++ s.lastIntStatus ++ (0 : BitVec 4) ++
    BitVec.ofBool s.fifoDisableFailed ++ BitVec.ofBool s.cntMisaligned ++
    BitVec.ofBool s.errSticky ++ BitVec.ofBool s.cmdRejected ++
    (0 : BitVec 1) ++ s.sstate.code ++
    BitVec.ofBool s.initDone ++ BitVec.ofBool s.err ++ BitVec.ofBool s.done ++ BitVec.ofBool s.busy

/-- A host write to STATUS: bits [11:8] are cleared where the written bit is 1, nothing else changes (R26, R32,
20_memory.md R66). -/
def clearSticky (w : Word) (s : State) : State :=
  { s with
    cmdRejected := s.cmdRejected && !w.getLsbD 8
    errSticky := s.errSticky && !w.getLsbD 9
    cntMisaligned := s.cntMisaligned && !w.getLsbD 10
    fifoDisableFailed := s.fifoDisableFailed && !w.getLsbD 11 }

/-- 41_sensor_driver.md R147: a count that is not a multiple of 6. -/
def misaligned (count : Half) : Bool := count.toNat % P_FRAME != 0

/-- The overflow bit of a status byte (42_batch_sampler.md R176). -/
def overflowBit (p : Params) (status : Byte) : Bool := status.getLsbD p.B_OFLOW.val

/-- The data-ready bit of a status byte (42_batch_sampler.md R177). -/
def dataReadyBit (p : Params) (status : Byte) : Bool := status.getLsbD p.B_DRDY.val

end Sys2Proof.Machine
end

