-- ==== Sys2Proof/Machine/Operands.lean ====
section
/-! DEFINITION. Operands and the pure functions on them: the divisor calculator, the full-scale code, the frame decoder,
the count combination, and the exact rates and physical values a host derives (spec 41_sensor_driver.md R140 to R147,
00_scope.md R17). -/

namespace Sys2Proof.Machine

open Sys2Proof.Config

/-- `round_half_even(P_BASE_RATE / t)` in integers, R141, for t >= 1. -/
def roundHalfEven (t : Nat) : Nat :=
  let a := P_BASE_RATE / t
  let rem := P_BASE_RATE % t
  if 2 * rem < t then a
  else if t < 2 * rem then a + 1
  else if a % 2 = 0 then a else a + 1

/-- `max(0, min(P_DIV_MAX, q - 1))` over the integers, R140 and R142. -/
def clampDivisor (q : Nat) : Int :=
  max 0 (min (P_DIV_MAX : Int) ((q : Int) - 1))

/-- `divcalc(t)`, R140. Rate 0 is rejected before it (R131), so its value there is free (log 12, safe). -/
def divcalc (t : Half) : Byte :=
  if t = 0 then freeDivisor else BitVec.ofInt 8 (clampDivisor (roundHalfEven t.toNat))

/-- The ranges INIT accepts, R131. -/
def legalRange (r : Byte) : Bool := r == 2 || r == 4 || r == 8 || r == 16

/-- `fs_code(r)`, R144; free outside the four ranges (log 12, safe). -/
def fsCodeOf (r : Byte) : Byte :=
  if r = 2 then 0x00
  else if r = 4 then 0x08
  else if r = 8 then 0x10
  else if r = 16 then 0x18
  else freeFsCode r

/-- A raw sample: three 16-bit two's-complement codes (10_state.md R46, R47). -/
structure Sample where
  x : Half
  y : Half
  z : Half
deriving DecidableEq, Repr

/-- `decode6`, R146: three big-endian 16-bit codes. -/
def decode6 (b0 b1 b2 b3 b4 b5 : Byte) : Sample :=
  ⟨b0 ++ b1, b2 ++ b3, b4 ++ b5⟩

/-- `high * 256 + low`, R147. -/
def combineCount (high low : Byte) : Half := high ++ low

/-- A batch size ACQUIRE accepts (42_batch_sampler.md R171). -/
def legalBatch (n : Half) : Bool := decide (1 ≤ n.toNat) && decide (n.toNat ≤ P_NMAX)

/-- The achieved rate in Hz for a programmed divisor, R143: an exact rational. -/
def achievedRate (d : Byte) : Rat := (P_BASE_RATE : Rat) / ((d.toNat : Rat) + 1)

/-- The scale factor of a range in g, R144: an exact rational. -/
def scaleFactor (r : Byte) : Rat := (r.toNat : Rat) / (P_SCALE_DEN : Rat)

/-- The physical value in g of a raw code at a range, 00_scope.md R17. -/
def physical (c : Half) (r : Byte) : Rat := (c.toInt : Rat) * scaleFactor r

end Sys2Proof.Machine
end

