-- ==== Sys2Proof/Machine/Ops.lean ====
section
/-! DEFINITION. The operations every command shares: the byte memory, the bus primitives and `xfer`, raising an error with
its abort or stop, completion, command acceptance and the frame of a sequencer step (spec 00_scope.md R14, R15,
40_bus_primitive.md R111, 43_control.md R201 to R204, 60_exceptions.md R213 to R217). -/

namespace Sys2Proof.Machine

open Sys2Proof.Config

/-! ### The memory behind the array ranges of the window (10_state.md R45, R46) -/

/-- Read one byte; an unlisted byte is 0 (log 7). -/
def Memory.read : Memory → Nat → Byte
  | [], _ => 0
  | (k, b) :: m, a => if k = a then b else Memory.read m a

/-- Write one byte, keeping the canonical form: writing 0 removes the entry. -/
def Memory.write : Memory → Nat → Byte → Memory
  | [], a, b => if b = 0 then [] else [(a, b)]
  | (k, c) :: m, a, b =>
    if k < a then (k, c) :: Memory.write m a b
    else if k = a then (if b = 0 then m else (a, b) :: m)
    else if b = 0 then (k, c) :: m
    else (a, b) :: (k, c) :: m

/-- Write a list of bytes at rising addresses. -/
def Memory.writeBytes : Memory → Nat → List Byte → Memory
  | m, _, [] => m
  | m, a, b :: l => Memory.writeBytes (Memory.write m a b) (a + 1) l

/-- The canonical form: addresses strictly rising, no zero byte listed. -/
def Memory.wf (m : Memory) : Bool :=
  decide (m.Pairwise fun c d => c.1 < d.1) && m.all fun c => c.2 != 0

/-- A host word of the memory: byte i of a word is bits [8i+7 : 8i] (20_memory.md R64). -/
def Memory.readWord (m : Memory) (a : Nat) : Word :=
  m.read (a + 3) ++ m.read (a + 2) ++ m.read (a + 1) ++ m.read a

/-- The four bytes of a host word, lowest address first (R64). -/
def wordBytes (v : Word) : List Byte :=
  [v.extractLsb' 0 8, v.extractLsb' 8 8, v.extractLsb' 16 8, v.extractLsb' 24 8]

/-- The offset of DATABUF in the window (10_state.md R23). -/
abbrev databufBase : Nat := 0x040

/-- The offset of SAMPLES in the window (10_state.md R23). -/
abbrev samplesBase : Nat := 0x4000

/-- `databuf[i]` (10_state.md R45). -/
def State.databuf (s : State) (i : Nat) : Byte := s.mem.read (databufBase + i)

/-- `databuf[0 .. len(l)-1] <- l`; the other bytes keep their values (10_state.md R45). -/
def storeDatabuf (l : List Byte) (s : State) : State :=
  { s with mem := s.mem.writeBytes databufBase l }

/-- The six bytes that hold a sample in the window, lowest offset first (10_state.md R46, 20_memory.md R64). -/
def sampleBytes (v : Sample) : List Byte :=
  [v.x.extractLsb' 0 8, v.x.extractLsb' 8 8, v.y.extractLsb' 0 8, v.y.extractLsb' 8 8,
    v.z.extractLsb' 0 8, v.z.extractLsb' 8 8]

/-- The offset of sample k (10_state.md R46). -/
def sampleAddr (k : Nat) : Nat := samplesBase + 8 * k

/-- `samples[k]` as stored. -/
def State.sample (s : State) (k : Nat) : Sample :=
  ⟨s.mem.read (sampleAddr k + 1) ++ s.mem.read (sampleAddr k),
    s.mem.read (sampleAddr k + 3) ++ s.mem.read (sampleAddr k + 2),
    s.mem.read (sampleAddr k + 5) ++ s.mem.read (sampleAddr k + 4)⟩

/-- `samples[SAMPCNT] <- v; SAMPCNT <- SAMPCNT + 1` (42_batch_sampler.md R179). -/
def storeSample (v : Sample) (s : State) : State :=
  { s with
    mem := s.mem.writeBytes (sampleAddr s.sampCnt.toNat) (sampleBytes v)
    sampCnt := s.sampCnt + 1 }

/-! ### The sensor agent and the bus primitives (00_scope.md R9, R14) -/

/-- The sensor agent draws its next answer: the next of the list, a free one after it (log 2). -/
def draw (s : State) : SensorAnswer × State :=
  match s.sensor with
  | a :: rest => (a, { s with sensor := rest, draws := s.draws + 1 })
  | [] => (freeAnswer s.draws, { s with draws := s.draws + 1 })

/-- The byte a single read delivers in draw `d` (log 3). -/
def fitByte (d : Nat) : List Byte → Byte
  | b :: _ => b
  | [] => freeByte d 0

/-- Exactly `n` bytes from draw `d`, from position `i` on: the listed ones, then free ones (log 3). -/
def fitExact (d : Nat) : Nat → Nat → List Byte → List Byte
  | _, 0, _ => []
  | i, n + 1, b :: l => b :: fitExact d (i + 1) n l
  | i, n + 1, [] => freeByte d i :: fitExact d (i + 1) n []

/-- The bytes a block read of `n` delivers: exactly `n`, or 1 to `n` with `P_SHORT_READ` (R14; log 3). -/
def fitBlock (short : Bool) (d n : Nat) (l : List Byte) : List Byte :=
  if short then
    match l with
    | [] => [freeByte d 0].take n
    | b :: l => (b :: l).take n
  else fitExact d 0 n l

/-- The transaction has ended: it is on the trace of the bus (log 4). -/
def note (req : BusReq) (ans : SensorAnswer) (s : State) : State :=
  { s with trace := ⟨req, ans⟩ :: s.trace }

/-- `BusWrite(dev, reg, v)` with the latched `dev` (R14, 20_memory.md R68). -/
def busWrite (reg v : Byte) (s : State) : Except Half Unit × State :=
  match draw s with
  | (.ok _, s1) => (.ok (), note (.write s.dev reg v) (.ok []) s1)
  | (.err c, s1) => (.error c, note (.write s.dev reg v) (.err c) s1)

/-- `BusRead(dev, reg)` (R14). -/
def busRead (reg : Byte) (s : State) : Except Half Byte × State :=
  match draw s with
  | (.ok l, s1) => (.ok (fitByte s.draws l), note (.read s.dev reg) (.ok [fitByte s.draws l]) s1)
  | (.err c, s1) => (.error c, note (.read s.dev reg) (.err c) s1)

/-- `BusReadBlock(dev, reg, n)` (R14). -/
def busReadBlock (reg : Byte) (n : Nat) (s : State) : Except Half (List Byte) × State :=
  match draw s with
  | (.ok l, s1) =>
    (.ok (fitBlock s.params.P_SHORT_READ s.draws n l),
      note (.readBlock s.dev reg n) (.ok (fitBlock s.params.P_SHORT_READ s.draws n l)) s1)
  | (.err c, s1) => (.error c, note (.readBlock s.dev reg n) (.err c) s1)

/-! ### Completion and errors -/

/-- `complete()`, 43_control.md R203; no command is running after it (10_state.md R47, `phase`). -/
def complete (s : State) : State :=
  { s with busy := false, done := true, phase := .none }

/-- `error_complete()`, 60_exceptions.md R213. -/
def errorComplete (s : State) : State :=
  { s with busy := false, done := true, phase := .none }

/-- The start of cycle of ACQUIRE has run and its abort has not (42_batch_sampler.md R181). -/
def Phase.inCycle : Phase → Bool
  | .none => false
  | .start => false
  | .arm0 => true
  | .arm1 => true
  | .arm2 => true
  | .arm3 => true
  | .settle => true
  | .poll => true
  | .cnth => true
  | .cntl => true
  | .drain => true
  | .finish => true
  | .doneComplete => false
  | .abort => true
  | .idleEnd => false

/-- Entering the abort of 60_exceptions.md R215: the disable write is a step of its own, except where the failing
transaction was that same write at completion; then SSTATE goes to IDLE in this step. An overflow's `raise` comes here
too, where R181 writes OVF (log 26). -/
def enterAbort (s : State) : State :=
  match s.phase with
  | .finish => { s with sstate := .idle, phase := .idleEnd }
  | _ => { s with phase := .abort }

/-- `raise`, 60_exceptions.md R213: the one way an error is taken. ERRINFO and ERR_STICKY are written; inside an
acquisition the abort follows (R215), elsewhere `stop()` does nothing (R217). The error completion is a boundary action
of its own, except where the error comes before the command's first one (`failAtOnce`). -/
def raise (kind : ErrKind) (subCause : BitVec 4) (errStep : Byte) (busErr : Half) (s : State) : State :=
  let s1 := { s with errInfo := ⟨kind, subCause, errStep, busErr⟩, errSticky := true }
  if s1.phase.inCycle then enterAbort s1 else s1

/-- A check that fails before any boundary action: the error and its completion are one step (43_control.md R202). -/
def failAtOnce (kind : ErrKind) (subCause : BitVec 4) (s : State) : State :=
  errorComplete (raise kind subCause 0 0 s)

/-- `raise BusError(step = min(xcount, 255), code = c)`, 40_bus_primitive.md R111. -/
def busError (c : Half) (s : State) : State :=
  raise .bus 0 (BitVec.ofNat 8 (min s.xcount 255)) c s

/-- `xfer(t)`, 40_bus_primitive.md R111, with the statements `k` that follow it in the same step. -/
def xfer {α : Type} (t : State → Except Half α × State) (k : α → State → State) (s : State) : State :=
  match t s with
  | (.ok v, s1) => k v { s1 with xcount := s1.xcount + 1 }
  | (.error c, s1) => busError c s1

/-- `settle(p)`, 43_control.md R204: no effect on state; its duration is not modelled. -/
def settle (_duration : Nat) (s : State) : State := s

/-! ### Acceptance and steps -/

/-- The phase at acceptance: ACQUIRE is at START (42_batch_sampler.md R181), no other command has one (log 9). -/
def startPhase (w : Word) : Phase :=
  match decode w with
  | .ok .acquire => .start
  | _ => .none

/-- The accepted branch of 43_control.md R201. -/
def acceptCommand (w : Word) (s : State) : State :=
  { s with
    cmd := w
    dev := s.busAddr
    errInfo := .zero
    busy := true
    done := false
    stepIx := 0
    xcount := 0
    phase := startPhase w }

/-- A step adds 1 to `step` (43_control.md R202). -/
def tick (s : State) : State := { s with stepIx := s.stepIx + 1 }

/-- One sequencer step with the given effect. -/
def sequencerStep (f : State → State) (s : State) : Host.Outcome State Fault Refusal :=
  .next (tick (f s))

/-- An error of this command has been raised: acceptance cleared ERRINFO, so a non-zero ERRCODE is this command's own
(43_control.md R201; log 10). -/
def State.failed (s : State) : Bool := s.errInfo.kind != .none

/-- One step of a command other than ACQUIRE: what `acts` says at the current step index, or, after an error, the error
completion (43_control.md R202, 60_exceptions.md R213, R217). -/
def ordinaryStep (acts : Nat → State → State) (s : State) : Host.Outcome State Fault Refusal :=
  sequencerStep (fun s => if s.failed then errorComplete s else acts s.stepIx s) s

/-- The SUBCAUSE of IllegalCommand for a word that is no command (30_encoding.md R95, R96). -/
def illegalSubCause : DecodeError → BitVec 4
  | .reservedOpcode => 1
  | .reservedBits => 2

/-- The one step of an accepted word that is no command (30_encoding.md R95, R96, R99). -/
def illegalCommand (e : DecodeError) (s : State) : Host.Outcome State Fault Refusal :=
  sequencerStep (failAtOnce .illegalCommand (illegalSubCause e)) s

/-! ### Sequences shared by the driver and the sampler -/

/-- The statements of read_count after its second read (41_sensor_driver.md R147). -/
def setCount (high low : Byte) (s : State) : State :=
  { s with
    fifoCnt := combineCount high low
    cntMisaligned := s.cntMisaligned || misaligned (combineCount high low) }

/-- `n` of drain(), 41_sensor_driver.md R148. -/
def drainLength (s : State) : Nat := min s.fifoCnt.toNat P_MAX_BURST

/-- drain() with `n > 0` (41_sensor_driver.md R148), then the statements `k` on the bytes returned. -/
def drainXfer (k : List Byte → State → State) (s : State) : State :=
  xfer (busReadBlock s.params.A_FIFO_R_W (drainLength s))
    (fun l s1 => k l { s1 with fifoCnt := s1.fifoCnt - BitVec.ofNat 16 l.length }) s

end Sys2Proof.Machine
end

