-- ==== Sys2Proof/Machine/BatchSampler.lean ====
section
/-! DEFINITION. ACQUIRE, the batch sampler (spec 42_batch_sampler.md R170 to R181) with its abort (60_exceptions.md R215).
`phase` names the step that comes next; each of the functions below is one sequencer step. -/

namespace Sys2Proof.Machine

open Sys2Proof.Config

/-- ARM0 (R173, R181). -/
def acqArm0 (s : State) : State :=
  xfer (busWrite s.params.A_USER_CTRL s.params.V_UC_OFF) (fun _ s => { s with phase := .arm1 }) s

/-- ARM1. -/
def acqArm1 (s : State) : State :=
  xfer (busWrite s.params.A_USER_CTRL s.params.V_UC_FIFO_RESET) (fun _ s => { s with phase := .arm2 }) s

/-- ARM2. -/
def acqArm2 (s : State) : State :=
  xfer (busWrite s.params.A_USER_CTRL s.params.V_UC_FIFO_ON) (fun _ s => { s with phase := .arm3 }) s

/-- ARM3. -/
def acqArm3 (s : State) : State :=
  xfer (busWrite s.params.A_FIFO_EN s.params.V_FIFO_EN_ACCEL) (fun _ s => { s with phase := .settle }) s

/-- The start of cycle, R172. -/
def startCycle (s : State) : State :=
  { s with nlat := s.nsamp, sampCnt := 0, acc := [], fifoCnt := 0, sstate := .fifoArmed, phase := .arm0 }

/-- The first step: the start checks of R171, then the start of cycle (R172) with ARM0. -/
def acqStart (s : State) : State :=
  if !s.initDone then failAtOnce .notInitialized 0 s
  else if !legalBatch s.nsamp then failAtOnce .configuration 3 s
  else acqArm0 (startCycle s)

/-- SETTLE, R174. -/
def acqSettle (s : State) : State :=
  { settle s.params.P_SETTLE s with sstate := .accumulating, phase := .poll }

/-- What follows the status read of a poll in its step: R176, then R177. -/
def acqOnStatus (b : Byte) (s : State) : State :=
  let s1 := { s with lastIntStatus := b }
  if overflowBit s.params b then raise .fifoOverflow 0 0 0 { s1 with sstate := .overflow }
  else if dataReadyBit s.params b then { s1 with phase := .cnth }
  else { s1 with phase := .poll }

/-- POLL with nothing cached, R175. -/
def acqStatus (s : State) : State :=
  xfer (busRead s.params.A_INT_STATUS) acqOnStatus s

/-- CNTH, R177 and 41_sensor_driver.md R147. -/
def acqCountHigh (s : State) : State :=
  xfer (busRead s.params.A_FIFO_COUNTH) (fun h s => { s with cntHigh := h, phase := .cntl }) s

/-- Where the loop of R170 goes on: a drain while bytes are cached, else a poll (R181). -/
def loopPhase (s : State) : Phase := if s.fifoCnt = 0 then .poll else .drain

/-- CNTL, R177 and 41_sensor_driver.md R147. -/
def acqCountLow (s : State) : State :=
  xfer (busRead s.params.A_FIFO_COUNTL)
    (fun l s => let s1 := setCount s.cntHigh l s; { s1 with phase := loopPhase s1 }) s

/-- The deframer, R179, on the accumulator's bytes: whole frames go to `samples` while the batch is not full, the rest
stays. -/
def deframe : List Byte → State → State
  | b0 :: b1 :: b2 :: b3 :: b4 :: b5 :: rest, s =>
    if s.sampCnt.toNat < s.nlat.toNat then
      deframe rest (storeSample (decode6 b0 b1 b2 b3 b4 b5) s)
    else { s with acc := b0 :: b1 :: b2 :: b3 :: b4 :: b5 :: rest }
  | short, s => { s with acc := short }

/-- What follows a drain in its step: R178, R179 and the test of R180. -/
def acqOnBytes (l : List Byte) (s : State) : State :=
  let s1 := deframe (s.acc ++ l) s
  { s1 with phase := if s1.sampCnt = s1.nlat then .finish else loopPhase s1 }

/-- DRAIN, R178. -/
def acqDrain (s : State) : State := drainXfer acqOnBytes s

/-- One iteration's first boundary action, R175: the cached count decides. -/
def acqIterate (s : State) : State := if s.fifoCnt = 0 then acqStatus s else acqDrain s

/-- FINISH, R180. -/
def acqFinish (s : State) : State :=
  xfer (busWrite s.params.A_FIFO_EN s.params.V_FIFO_EN_OFF)
    (fun _ s => { s with acc := [], sstate := .complete, phase := .doneComplete }) s

/-- ABORT, 60_exceptions.md R215, R216: one disable write, not through `xfer`. -/
def acqAbort (s : State) : State :=
  match busWrite s.params.A_FIFO_EN s.params.V_FIFO_EN_OFF s with
  | (.ok _, s1) => { s1 with xcount := s1.xcount + 1, sstate := .idle, phase := .idleEnd }
  | (.error _, s1) => { s1 with fifoDisableFailed := true, sstate := .idle, phase := .idleEnd }

/-- The step of each phase, R181. A command at START has phase `start`; `none` never meets a running ACQUIRE and is read
as START (log 9). -/
def acqPhaseStep : Phase → State → State
  | .none, s => acqStart s
  | .start, s => acqStart s
  | .arm0, s => acqArm0 s
  | .arm1, s => acqArm1 s
  | .arm2, s => acqArm2 s
  | .arm3, s => acqArm3 s
  | .settle, s => acqSettle s
  | .poll, s => acqIterate s
  | .cnth, s => acqCountHigh s
  | .cntl, s => acqCountLow s
  | .drain, s => acqIterate s
  | .finish, s => acqFinish s
  | .doneComplete, s => complete s
  | .abort, s => acqAbort s
  | .idleEnd, s => errorComplete s

/-- ACQUIRE, R170. -/
def execAcquire (s : State) : Host.Outcome State Fault Refusal :=
  sequencerStep (fun s => acqPhaseStep s.phase s) s

end Sys2Proof.Machine
end

