-- ==== Sys2Proof/Machine/BusPrimitive.lean ====
section
/-! DEFINITION. The bus primitive commands (spec 40_bus_primitive.md). A meaning is one sequencer step: the step index
says which (43_control.md R202). -/

namespace Sys2Proof.Machine

open Sys2Proof.Config

/-- WRREG, R110. -/
def execWrreg (reg data : Byte) (s : State) : Host.Outcome State Fault Refusal :=
  ordinaryStep (fun i s =>
    match i with
    | 0 => xfer (busWrite reg data) (fun _ s => s) s
    | _ => complete s) s

/-- RDREG, R112. -/
def execRdreg (reg : Byte) (s : State) : Host.Outcome State Fault Refusal :=
  ordinaryStep (fun i s =>
    match i with
    | 0 => xfer (busRead reg) (fun b s => { s with rdByte := b }) s
    | _ => complete s) s

/-- RDBLK, R114; the length check is 30_encoding.md R98 and R99 item 5. -/
def execRdblk (reg len : Byte) (s : State) : Host.Outcome State Fault Refusal :=
  ordinaryStep (fun i s =>
    match i with
    | 0 =>
      if blockLengthOk len then
        xfer (busReadBlock reg len.toNat)
          (fun l s => { storeDatabuf l s with lastLen := BitVec.ofNat 6 l.length }) s
      else failAtOnce .illegalCommand 3 s
    | _ => complete s) s

end Sys2Proof.Machine
end

