-- ==== Sys2Proof/Machine/Control.lean ====
section
/-! DEFINITION. The NOP command (spec 43_control.md R200). -/

namespace Sys2Proof.Machine

/-- R200: `complete()`. -/
def execNop (s : State) : Host.Outcome State Fault Refusal :=
  ordinaryStep (fun _ => complete) s

end Sys2Proof.Machine
end

