-- ==== Sys2Proof/Machine/SensorDriver.lean ====
section
/-! DEFINITION. The sensor driver commands (spec 41_sensor_driver.md). A meaning is one sequencer step: the step index
says which (43_control.md R202, R205). -/

namespace Sys2Proof.Machine

open Sys2Proof.Config

/-- INIT's first step: validation (R131), then INIT_DONE <- 0 and transaction 0 (R130). -/
def initStart (s : State) : State :=
  if !legalRange s.rangeG then failAtOnce .configuration 1 s
  else if s.targetRate = 0 then failAtOnce .configuration 2 s
  else xfer (busWrite s.params.A_PWR_MGMT_1 s.params.V_DEVICE_RESET) (fun _ s => s) { s with initDone := false }

/-- INIT's divisor write (R130, R140). -/
def initDivisor (s : State) : State :=
  xfer (busWrite s.params.A_SMPLRT_DIV (divcalc s.targetRate))
    (fun _ s => { s with divisor := divcalc s.targetRate }) s

/-- INIT's full-scale write (R130, R144). -/
def initScale (s : State) : State :=
  xfer (busWrite s.params.A_ACCEL_CONFIG (fsCodeOf s.rangeG))
    (fun _ s => { s with fsCode := fsCodeOf s.rangeG, range := s.rangeG }) s

/-- INIT, R130: 7 steps (43_control.md R205). Its inputs cannot change while it runs, so each step reads them again
(43_control.md R201; log 11). -/
def execInit (s : State) : Host.Outcome State Fault Refusal :=
  ordinaryStep (fun i s =>
    match i with
    | 0 => initStart s
    | 1 => settle s.params.P_RESET_SETTLE s
    | 2 => initDivisor s
    | 3 => initScale s
    | 4 => xfer (busWrite s.params.A_PWR_MGMT_1 s.params.V_CLK_PLL) (fun _ s => s) s
    | 5 => xfer (busWrite s.params.A_INT_ENABLE s.params.V_INT_ENABLE) (fun _ s => { s with initDone := true }) s
    | _ => complete s) s

/-- FIFO_ON, R132: seq_fifo_reset (R139), then the accelerometer enable. -/
def execFifoOn (s : State) : Host.Outcome State Fault Refusal :=
  ordinaryStep (fun i s =>
    match i with
    | 0 => xfer (busWrite s.params.A_USER_CTRL s.params.V_UC_OFF) (fun _ s => s) s
    | 1 => xfer (busWrite s.params.A_USER_CTRL s.params.V_UC_FIFO_RESET) (fun _ s => s) s
    | 2 => xfer (busWrite s.params.A_USER_CTRL s.params.V_UC_FIFO_ON) (fun _ s => s) s
    | 3 => xfer (busWrite s.params.A_FIFO_EN s.params.V_FIFO_EN_ACCEL) (fun _ s => s) s
    | _ => complete s) s

/-- FIFO_OFF, R133. -/
def execFifoOff (s : State) : Host.Outcome State Fault Refusal :=
  ordinaryStep (fun i s =>
    match i with
    | 0 => xfer (busWrite s.params.A_FIFO_EN s.params.V_FIFO_EN_OFF) (fun _ s => s) s
    | _ => complete s) s

/-- FIFO_RESET, R134: seq_fifo_reset (R139). -/
def execFifoReset (s : State) : Host.Outcome State Fault Refusal :=
  ordinaryStep (fun i s =>
    match i with
    | 0 => xfer (busWrite s.params.A_USER_CTRL s.params.V_UC_OFF) (fun _ s => s) s
    | 1 => xfer (busWrite s.params.A_USER_CTRL s.params.V_UC_FIFO_RESET) (fun _ s => s) s
    | 2 => xfer (busWrite s.params.A_USER_CTRL s.params.V_UC_FIFO_ON) (fun _ s => s) s
    | _ => complete s) s

/-- RDSTATUS, R135. -/
def execRdstatus (s : State) : Host.Outcome State Fault Refusal :=
  ordinaryStep (fun i s =>
    match i with
    | 0 => xfer (busRead s.params.A_INT_STATUS) (fun b s => { s with rdByte := b, lastIntStatus := b }) s
    | _ => complete s) s

/-- RDCOUNT, R136: read_count (R147), high byte first. -/
def execRdcount (s : State) : Host.Outcome State Fault Refusal :=
  ordinaryStep (fun i s =>
    match i with
    | 0 => xfer (busRead s.params.A_FIFO_COUNTH) (fun h s => { s with cntHigh := h }) s
    | 1 => xfer (busRead s.params.A_FIFO_COUNTL) (fun l s => setCount s.cntHigh l s) s
    | _ => complete s) s

/-- DRAIN, R137: with nothing cached there is no transaction and the command completes in its first step (R148). -/
def execDrain (s : State) : Host.Outcome State Fault Refusal :=
  ordinaryStep (fun i s =>
    match i with
    | 0 =>
      if drainLength s = 0 then complete { s with lastLen := 0 }
      else drainXfer (fun l s => { storeDatabuf l s with lastLen := BitVec.ofNat 6 l.length }) s
    | _ => complete s) s

/-- The frame held in `databuf[0..5]`, decoded (R138, R146). -/
def databufFrame (s : State) : Sample :=
  decode6 (s.databuf 0) (s.databuf 1) (s.databuf 2) (s.databuf 3) (s.databuf 4) (s.databuf 5)

/-- DECODE, R138. -/
def execDecodeFrame (len : Byte) (s : State) : Host.Outcome State Fault Refusal :=
  ordinaryStep (fun i s =>
    match i with
    | 0 =>
      if len.toNat = P_FRAME then
        complete { s with decX := (databufFrame s).x, decY := (databufFrame s).y, decZ := (databufFrame s).z }
      else failAtOnce .framing 0 s
    | _ => complete s) s

end Sys2Proof.Machine
end

