-- ==== Sys2Proof/Machine/Dispatch.lean ====
section
/-! DEFINITION. One sequencer step of a command: one arm for each constructor of Instr. -/

namespace Sys2Proof.Machine

def exec (i : Instr) (s : State) : Host.Outcome State Fault Refusal :=
  match i with
  | .nop => Sys2Proof.Machine.execNop s
  | .wrreg reg data => Sys2Proof.Machine.execWrreg reg data s
  | .rdreg reg => Sys2Proof.Machine.execRdreg reg s
  | .rdblk reg len => Sys2Proof.Machine.execRdblk reg len s
  | .init => Sys2Proof.Machine.execInit s
  | .fifoOn => Sys2Proof.Machine.execFifoOn s
  | .fifoOff => Sys2Proof.Machine.execFifoOff s
  | .fifoReset => Sys2Proof.Machine.execFifoReset s
  | .rdstatus => Sys2Proof.Machine.execRdstatus s
  | .rdcount => Sys2Proof.Machine.execRdcount s
  | .drain => Sys2Proof.Machine.execDrain s
  | .decodeFrame len => Sys2Proof.Machine.execDecodeFrame len s
  | .acquire => Sys2Proof.Machine.execAcquire s

end Sys2Proof.Machine
end

