-- ==== Sys2Proof/Machine/HostPort.lean ====
section
/-! DEFINITION. The host's side: what a read of the window returns, what a write does, the host's statements and the
block reset (spec 10_state.md R23 to R46, 20_memory.md R60 to R67, 30_encoding.md R100 to R102,
70_reset_and_hazards.md R240 to R243). -/

namespace Sys2Proof.Machine

open Sys2Proof.Config

/-- ID, 10_state.md R24. -/
abbrev idWord : Word := 0x5641_0001

/-- A read in the SAMPLES range, behind its gate (10_state.md R46): `o` is the offset from 0x4000. -/
def samplesWord (s : State) (o : Nat) : Word :=
  if s.sstate = .complete ∧ o / 8 < s.nlat.toNat then
    if o % 8 = 0 then (s.sample (o / 8)).y ++ (s.sample (o / 8)).x
    else (s.sample (o / 8)).z.zeroExtend 32
  else 0

/-- `MemRead(P_BASE + off, 4)`, 20_memory.md R62, over the map of 10_state.md R23; `o` is a multiple of 4. -/
def windowWord (s : State) (o : Nat) : Word :=
  if o = 0x000 then idWord
  else if o = 0x004 then s.cmd
  else if o = 0x008 then s.statusWord
  else if o = 0x00C then s.errInfo.word
  else if o = 0x010 then (0 : Half) ++ s.rangeG ++ (0 : BitVec 1) ++ s.busAddr
  else if o = 0x014 then s.targetRate.zeroExtend 32
  else if o = 0x018 then s.nsamp.zeroExtend 32
  else if o = 0x01C then s.divisor.zeroExtend 32
  else if o = 0x020 then (0 : Half) ++ s.range ++ s.fsCode
  else if o = 0x024 then s.fifoCnt.zeroExtend 32
  else if o = 0x028 then (BitVec.ofNat 6 s.acc.length).zeroExtend 32
  else if o = 0x02C then s.sampCnt.zeroExtend 32
  else if o = 0x030 then (0 : BitVec 18) ++ s.lastLen ++ s.rdByte
  else if o = 0x034 then s.decY ++ s.decX
  else if o = 0x038 then s.decZ.zeroExtend 32
  else if 0x040 ≤ o ∧ o < 0x060 then s.mem.readWord o
  else if 0x4000 ≤ o then samplesWord s (o - 0x4000)
  else 0

/-- A host read. -/
def hostRead (off : Offset) (s : State) : Word := windowWord s off.toNat

/-- The registers whose host writes are rejected while BUSY (20_memory.md R67): CMD, CFG_DEV, CFG_RATE, CFG_BATCH and
DATABUF. -/
def busyGuarded (o : Nat) : Bool :=
  o == 0x004 || o == 0x010 || o == 0x014 || o == 0x018 || (decide (0x040 ≤ o) && decide (o < 0x060))

/-- `MemWrite(P_BASE + off, 4, v)`, 20_memory.md R66, R67 and 43_control.md R201. -/
def hostWrite (off : Offset) (v : Word) (s : State) : State :=
  let o := off.toNat
  if o = 0x008 then clearSticky v s
  else if busyGuarded o then
    if s.busy then { s with cmdRejected := true }
    else if o = 0x004 then acceptCommand v s
    else if o = 0x010 then { s with busAddr := v.extractLsb' 0 7, rangeG := v.extractLsb' 8 8 }
    else if o = 0x014 then { s with targetRate := v.extractLsb' 0 16 }
    else if o = 0x018 then { s with nsamp := v.extractLsb' 0 16 }
    else { s with mem := s.mem.writeBytes o (wordBytes v) }
  else s

/-- The accesses the block supports, 20_memory.md R63. -/
def supportedAccess (off : Offset) (width : Nat) : Bool :=
  decide (width = 4) && decide (off.toNat % 4 = 0)

/-- One host statement (30_encoding.md R101, R102). With none left the host makes no access. `poll` reads STATUS and
stays until the read shows BUSY = 0. -/
def hostTurn (s : State) : Host.Outcome State Fault Refusal :=
  match s.host with
  | [] => .next s
  | .ld off width :: rest =>
    if supportedAccess off width then
      .next { s with host := rest, loads := hostRead off s :: s.loads }
    else .refused .unsupportedHostAccess
  | .st off width v :: rest =>
    if supportedAccess off width then .next (hostWrite off v { s with host := rest })
    else .refused .unsupportedHostAccess
  | .poll :: rest =>
    .next { s with
      loads := s.statusWord :: s.loads
      host := if s.statusWord.getLsbD 0 then s.host else rest }

/-- `Reset()`, 70_reset_and_hazards.md R240 to R243: every register and internal element at its reset value, no bus
transaction; the sensor, the host and what was observed of them are not the block's, and the parameters are fixed
(log 15). -/
def blockReset (s : State) : State :=
  { State.reset with
    params := s.params
    sensor := s.sensor
    draws := s.draws
    trace := s.trace
    host := s.host
    loads := s.loads
    turns := s.turns }

/-- `st32 off, v` (30_encoding.md R101). -/
def st32 (off : Offset) (v : Word) : HostStmt := .st off 4 v

/-- `ld32 off` (30_encoding.md R101). -/
def ld32 (off : Offset) : HostStmt := .ld off 4

/-- A command as a host statement: `st32 CMD, enc(c)` (30_encoding.md R102). -/
def issue (i : Instr) : HostStmt := st32 0x004 (encode i)

/-- `run <command>` (30_encoding.md R102). -/
def runCommand (i : Instr) : List HostStmt := [issue i, .poll]

/-- The CFG_DEV word `(r << 8) | a` (30_encoding.md R102). -/
def cfgDevWord (a : DevAddr) (r : Byte) : Word := (0 : Half) ++ r ++ (0 : BitVec 1) ++ a

/-- `cfg addr=a, range=r` (30_encoding.md R102): `st32 CFG_DEV, (r << 8) | a`. -/
def cfgDev (a : DevAddr) (r : Byte) : HostStmt := st32 0x010 (cfgDevWord a r)

/-- The CFG_DEV write of `cfg` (30_encoding.md R102): none with both fields left out. With one left out, DESIGN CHOICE
(log 25): "a field left out is not written", but the two share one write, so the write stores the left-out field again at
its value in `now`, the CFG_DEV word before the `cfg`, which the host knows as the register's one writer
(20_memory.md R75). -/
def cfgDevWrite (addr : Option DevAddr) (range : Option Byte) (now : Word) : List HostStmt :=
  match addr, range with
  | none, none => []
  | some a, none => [cfgDev a (now.extractLsb' 8 8)]
  | none, some r => [cfgDev (now.extractLsb' 0 7) r]
  | some a, some r => [cfgDev a r]

/-- `cfg rate=t` (30_encoding.md R102). -/
def cfgRate (t : Half) : HostStmt := st32 0x014 (t.zeroExtend 32)

/-- `cfg n=k` (30_encoding.md R102). -/
def cfgBatch (k : Half) : HostStmt := st32 0x018 (k.zeroExtend 32)

/-- `cfg addr=a, range=r, rate=t, n=k` (30_encoding.md R102): the writes of CFG_DEV, CFG_RATE and CFG_BATCH, in this order,
without those of the fields left out. `now` is read only where one of addr and range is left out (log 25). -/
def cfg (addr : Option DevAddr) (range : Option Byte) (rate n : Option Half) (now : Word) : List HostStmt :=
  cfgDevWrite addr range now ++ (rate.map cfgRate).toList ++ (n.map cfgBatch).toList

/-- `w1c m` (30_encoding.md R102). -/
def w1c (m : Word) : HostStmt := st32 0x008 m

/-- `ldbuf b0, ..., b(k-1)` from DATABUF word `i` on; missing bytes are 0 (30_encoding.md R102). -/
def ldbuf (i : Nat) : List Byte → List HostStmt
  | [] => []
  | [b0] => [st32 (BitVec.ofNat 15 (0x040 + 4 * i)) ((0 : BitVec 24) ++ b0)]
  | [b0, b1] => [st32 (BitVec.ofNat 15 (0x040 + 4 * i)) ((0 : Half) ++ b1 ++ b0)]
  | [b0, b1, b2] => [st32 (BitVec.ofNat 15 (0x040 + 4 * i)) ((0 : Byte) ++ b2 ++ b1 ++ b0)]
  | b0 :: b1 :: b2 :: b3 :: rest =>
    st32 (BitVec.ofNat 15 (0x040 + 4 * i)) (b3 ++ b2 ++ b1 ++ b0) :: ldbuf (i + 1) rest

end Sys2Proof.Machine
end

