-- ==== Sys2Proof/Machine/Step.lean ====
section
/-! DEFINITION. One event of the machine: a host access, a sequencer step or the block reset (spec 20_memory.md R73,
43_control.md R202, 70_reset_and_hazards.md R240). -/

namespace Sys2Proof.Machine

/-- The sequencer's turn: one step of the accepted command while BUSY; with BUSY = 0 it has no step (43_control.md
R202). The decode checks come first (30_encoding.md R99). -/
def sequencerTurn (s : State) : Host.Outcome State Fault Refusal :=
  if s.busy then
    match decode s.cmd with
    | .ok i => exec i s
    | .error e => illegalCommand e s
  else .next s

/-- One event. `turns` says whose it is; where it lists nothing, the sequencer moves while BUSY and the host otherwise
(log 1). -/
def step (s : State) : Host.Outcome State Fault Refusal :=
  match s.turns with
  | .host :: ts => hostTurn { s with turns := ts }
  | .sequencer :: ts => sequencerTurn { s with turns := ts }
  | .reset :: ts => .next (blockReset { s with turns := ts })
  | [] => if s.busy then sequencerTurn s else hostTurn s

/-- The command word is accepted and the next event is the sequencer's: what a host write of it to CMD does while BUSY =
0 (43_control.md R201). It stands for that write (log 14). -/
def State.withFetchWord (s : State) (nbits w : Nat) : State :=
  { acceptCommand (tableWord nbits w) s with turns := .sequencer :: s.turns }

end Sys2Proof.Machine
end

