-- ==== Sys2Proof/Safety.lean ====
section
/-! DEFINITION. The terms statements are made in: the invariant of the block (spec 10_state.md R48 with what it needs to be
inductive), several steps of one command, an accepted command, and frames. -/

namespace Sys2Proof.Machine

open Sys2Proof.Config

/-! ### Runs of one command -/

/-- `k` sequencer steps of the command `i`, stopping at the first outcome that is no next state. -/
def execN : Nat → Instr → State → Host.Outcome State Fault Refusal
  | 0, _, s => .next s
  | k + 1, i, s =>
    match exec i s with
    | .next s' => execN k i s'
    | .fault r => .fault r
    | .refused r => .refused r

/-- A command that has been accepted and has taken no step yet (43_control.md R201). -/
abbrev State.Accepted (s : State) : Prop :=
  s.busy = true ∧ s.done = false ∧ s.errInfo = .zero ∧ s.stepIx = 0 ∧ s.xcount = 0

/-- A running command that no error has ended. -/
abbrev State.Running (s : State) : Prop :=
  s.busy = true ∧ s.done = false ∧ s.errInfo = .zero

/-! ### What one step leaves, written field by field and independent of the machine's own operations -/

/-- The state after a step whose one transaction succeeded and delivered `bytes` (43_control.md R202, 40_bus_primitive.md
R111): the sensor agent has moved on to `rest`, the transaction is on the trace, `xcount` and `step` have grown. -/
def afterOk (req : BusReq) (bytes : List Byte) (rest : List SensorAnswer) (s : State) : State :=
  { s with
    sensor := rest, draws := s.draws + 1, trace := ⟨req, .ok bytes⟩ :: s.trace,
    xcount := s.xcount + 1, stepIx := s.stepIx + 1 }

/-- The state after a step whose one transaction failed with code `c`, before its error is recorded. -/
def afterErr (req : BusReq) (c : Half) (rest : List SensorAnswer) (s : State) : State :=
  { s with
    sensor := rest, draws := s.draws + 1, trace := ⟨req, .err c⟩ :: s.trace, stepIx := s.stepIx + 1 }

/-- An error is recorded: ERRINFO and ERR_STICKY (60_exceptions.md R213). -/
def recorded (kind : ErrKind) (subCause : BitVec 4) (errStep : Byte) (busErr : Half) (s : State) : State :=
  { s with errInfo := ⟨kind, subCause, errStep, busErr⟩, errSticky := true }

/-- The step of a completion, successful or not (43_control.md R203, 60_exceptions.md R213). -/
def ended (s : State) : State :=
  { s with busy := false, done := true, phase := .none, stepIx := s.stepIx + 1 }

/-- The answers a successful block read of `n` bytes may give (00_scope.md R14). -/
abbrev FitsBlock (p : Params) (n : Nat) (l : List Byte) : Prop :=
  if p.P_SHORT_READ = true then 1 ≤ l.length ∧ l.length ≤ n else l.length = n

/-- The device a transaction names. -/
def BusReq.dev : BusReq → DevAddr
  | .write d _ _ => d
  | .read d _ => d
  | .readBlock d _ _ => d

/-- The parameters that the spec leaves OPEN (00_scope.md R7) at other values. -/
def State.withOpenParams (k : BusKind) (base settle resetSettle : Nat) (s : State) : State :=
  { s with params := { s.params with
      P_BUS_KIND := k, P_BASE := base, P_SETTLE := settle, P_RESET_SETTLE := resetSettle } }

/-! ### The byte stream of an acquisition (42_batch_sampler.md R182) -/

/-- The six bytes of the frame that a sample was decoded from, in stream order (20_memory.md R71). -/
def frameBytes (v : Sample) : List Byte :=
  [v.x.extractLsb' 8 8, v.x.extractLsb' 0 8, v.y.extractLsb' 8 8, v.y.extractLsb' 0 8,
    v.z.extractLsb' 8 8, v.z.extractLsb' 0 8]

/-- The stream the batch and the accumulator stand for: the frames of `samples[0 .. SAMPCNT-1]`, then `acc`. -/
def State.stream (s : State) : List Byte :=
  ((List.range s.sampCnt.toNat).map fun k => frameBytes (s.sample k)).flatten ++ s.acc

/-- The answers of a sensor that delivers `data` in bursts of `P_MAX_BURST` bytes; `fuel` bounds their number. -/
def burstsOf : Nat → List Byte → List SensorAnswer
  | 0, _ => []
  | _ + 1, [] => []
  | fuel + 1, b :: l => .ok ((b :: l).take P_MAX_BURST) :: burstsOf fuel ((b :: l).drop P_MAX_BURST)

/-! ### Frames -/

/-- `s` with the fields that any sequencer step may change taken from `t`: BUSY, DONE, ERRINFO, ERR_STICKY, the step and
transaction counters, `phase`, and the sensor agent with the bus trace. A statement `t = withControl s t` says that every
other field is unchanged. -/
def withControl (s t : State) : State :=
  { s with
    busy := t.busy, done := t.done, errInfo := t.errInfo, errSticky := t.errSticky, stepIx := t.stepIx,
    xcount := t.xcount, phase := t.phase, sensor := t.sensor, draws := t.draws, trace := t.trace }

/-- The transaction a step made, if any: `t`'s trace is `s`'s with it in front. -/
abbrev MadeTransaction (s t : State) (x : Transaction) : Prop := t.trace = x :: s.trace

/-! ### The invariant -/

/-- The byte offsets of the window that have storage: DATABUF (10_state.md R45) and the six bytes of each sample
(R46). -/
def storageOffset (a : Nat) : Bool :=
  (decide (0x040 ≤ a) && decide (a < 0x060)) ||
    (decide (0x4000 ≤ a) && decide (a < 0x8000) && decide (a % 8 < 6))

/-- The SSTATE column of the table of 42_batch_sampler.md R181, and, with no cycle, IDLE or COMPLETE. -/
def Phase.admits : Phase → SState → Bool
  | .none, x => x == .idle || x == .complete
  | .start, x => x == .idle || x == .complete
  | .arm0, x => x == .fifoArmed
  | .arm1, x => x == .fifoArmed
  | .arm2, x => x == .fifoArmed
  | .arm3, x => x == .fifoArmed
  | .settle, x => x == .fifoArmed
  | .poll, x => x == .accumulating
  | .cnth, x => x == .accumulating
  | .cntl, x => x == .accumulating
  | .drain, x => x == .accumulating
  | .finish, x => x == .accumulating
  | .doneComplete, x => x == .complete
  | .abort, x => x == .fifoArmed || x == .accumulating || x == .overflow
  | .idleEnd, x => x == .idle

/-- The phases in which the accumulator holds no whole frame: from the start of cycle to the next drain. -/
def Phase.beforeFinish : Phase → Bool
  | .arm0 => true
  | .arm1 => true
  | .arm2 => true
  | .arm3 => true
  | .settle => true
  | .poll => true
  | .cnth => true
  | .cntl => true
  | .drain => true
  | _ => false

/-- SCALE as INIT leaves it (10_state.md R39): nothing programmed, or a range with its code. -/
def scaleOk (range fsCode : Byte) : Bool :=
  (range == 0 && fsCode == 0) || (range == 2 && fsCode == 0) || (range == 4 && fsCode == 8) ||
    (range == 8 && fsCode == 16) || (range == 16 && fsCode == 24)

/-- The invariants of 10_state.md R48 (FIFOCNT's bound (i) is its type, (iv) is R29's view), R181's table, the facts R39,
R43 and R186 state about SCALE, LASTLEN and a complete batch, and the canonical form of the memory. -/
structure State.Inv (s : State) : Prop where
  memCanonical : s.mem.wf = true
  memOnlyStorage : ∀ c ∈ s.mem, storageOffset c.1 = true
  busyNotDone : s.busy = true → s.done = false
  phaseRuns : s.phase ≠ .none → s.busy = true ∧ decode s.cmd = .ok .acquire
  acquireHasPhase : s.busy = true → decode s.cmd = .ok .acquire → s.phase ≠ .none
  phaseAdmits : s.phase.admits s.sstate = true
  sampCntLe : s.sampCnt.toNat ≤ s.nlat.toNat
  nlatLe : s.nlat.toNat ≤ P_NMAX
  cycleNonempty : s.phase.inCycle = true → 1 ≤ s.nlat.toNat
  accLe : s.acc.length ≤ 35
  accPartial : s.phase.beforeFinish = true → s.acc.length < P_FRAME
  finishFull : s.phase = .finish → s.sampCnt = s.nlat
  completeFull : s.sstate = .complete → s.sampCnt = s.nlat ∧ 1 ≤ s.nlat.toNat
  lastLenLe : s.lastLen.toNat ≤ P_BLOCK_MAX
  scaleLegal : scaleOk s.range s.fsCode = true
  initValidated : s.busy = true → decode s.cmd = .ok .init → 1 ≤ s.stepIx → s.failed = false →
    legalRange s.rangeG = true ∧ s.targetRate ≠ 0
  initScaled : s.busy = true → decode s.cmd = .ok .init → 4 ≤ s.stepIx → s.failed = false → s.range ≠ 0
  initDoneScaled : s.initDone = true → s.range ≠ 0
  noErrorIsZero : s.failed = false → s.errInfo = .zero
  failedCycle : s.failed = true → s.phase = .none ∨ s.phase = .abort ∨ s.phase = .idleEnd

end Sys2Proof.Machine
end

