-- ==== Sys2Proof/Certificates/Slice0/Obligations.lean ====
section
/-! DEFINITION. The statements for the provers. Each docstring names the rule of the spec it comes from. -/

open Sys2Proof Sys2Proof.Machine Sys2Proof.Config

/-! ### The command word -/

/-- 30_encoding.md R91, R93, R100: no bit of an operand is lost between the encoder and the decoder. -/
def Obligations.DecodeOfEncode : Prop :=
  ∀ i : Instr, decode (encode i) = .ok i

/-- 30_encoding.md R94: under the mask 0xFF0000FF a word is command k exactly when it equals k. The second clause takes in
RDBLK words whose length R94 and R98 exclude: that the decoder gives them, and the command's own first step refuses them
(BlockLengthOutOfRangeIsIllegal), is the model's choice (log 13, DEDUCED) and not R94's. -/
def Obligations.DecodeIsMaskAndMatch : Prop :=
  ∀ w : Word,
    (∀ i, decode w = .ok i → w &&& 0xFF0000FF = i.opcode.zeroExtend 32) ∧
      ((w &&& 0xFF0000FF).toNat ≤ 0xC → ∃ i, decode w = .ok i)

/-- 30_encoding.md R97: words that differ only in fields their opcode does not use are the same command; 0xD to 0xF are
reserved. REG is used by opcodes 1, 2, 3 and ARG by 1, 3, 0xB (R91). -/
def Obligations.IgnoredFieldsAreIgnored : Prop :=
  (∀ w w' : Word, opField w = opField w' → rsv0Field w = rsv0Field w' → rsv1Field w = rsv1Field w' →
    (opField w = 1 ∨ opField w = 2 ∨ opField w = 3 → regField w = regField w') →
    (opField w = 1 ∨ opField w = 3 ∨ opField w = 0xB → argField w = argField w') →
    decode w = decode w') ∧
  ∀ w : Word, 0xD ≤ (opField w).toNat → decode w = .error .reservedOpcode

/-- 30_encoding.md R95: a reserved opcode is accepted and completes in its first step with IllegalCommand 1, with no
transaction and no other change than acceptance and error completion make. -/
def Obligations.ReservedOpcodeIsIllegal : Prop :=
  ∀ (s : State) (w : Word), s.busy = false → 0xD ≤ (opField w).toNat →
    sequencerTurn (hostWrite 0x004 w s) = .next
      { s with
        cmd := w, dev := s.busAddr, errInfo := ⟨.illegalCommand, 1, 0, 0⟩, errSticky := true,
        busy := false, done := true, stepIx := 1, xcount := 0, phase := .none }

/-- 30_encoding.md R96: a defined opcode with a reserved bit set is IllegalCommand 2. -/
def Obligations.ReservedBitsAreIllegal : Prop :=
  ∀ (s : State) (w : Word), s.busy = false → (opField w).toNat ≤ 0xC → rsv0Field w ≠ 0 ∨ rsv1Field w ≠ 0 →
    sequencerTurn (hostWrite 0x004 w s) = .next
      { s with
        cmd := w, dev := s.busAddr, errInfo := ⟨.illegalCommand, 2, 0, 0⟩, errSticky := true,
        busy := false, done := true, stepIx := 1, xcount := 0, phase := .none }

/-- 30_encoding.md R98: a RDBLK word whose length is 0 or above 32 is IllegalCommand 3; DECODE has no length check at
this place, and a length other than 6 is its FramingError. -/
def Obligations.BlockLengthOutOfRangeIsIllegal : Prop :=
  (∀ (s : State) (w : Word), s.busy = false → opField w = 3 → rsv0Field w = 0 → rsv1Field w = 0 →
    argField w = 0 ∨ 32 < (argField w).toNat →
    sequencerTurn (hostWrite 0x004 w s) = .next
      { s with
        cmd := w, dev := s.busAddr, errInfo := ⟨.illegalCommand, 3, 0, 0⟩, errSticky := true,
        busy := false, done := true, stepIx := 1, xcount := 0, phase := .none }) ∧
  (∀ w : Word, opField w = 0xB → rsv0Field w = 0 → rsv1Field w = 0 → decode w = .ok (.decodeFrame (argField w))) ∧
  ∀ (s : State) (w : Word), s.busy = false → opField w = 0xB → rsv0Field w = 0 → rsv1Field w = 0 → argField w ≠ 6 →
    sequencerTurn (hostWrite 0x004 w s) = .next
      { s with
        cmd := w, dev := s.busAddr, errInfo := ⟨.framing, 0, 0, 0⟩, errSticky := true,
        busy := false, done := true, stepIx := 1, xcount := 0, phase := .none }

/-- 30_encoding.md R103: the example words mean what the table says (sanity). The length of `RDBLK 0x74, 33` is refused
by the command itself (BlockLengthOutOfRangeIsIllegal). -/
def Obligations.EncodingExamplesDecode : Prop :=
  decode 0x00000000 = .ok .nop ∧ decode 0x00806B01 = .ok (.wrreg 0x6B 0x80) ∧
  decode 0x00003A02 = .ok (.rdreg 0x3A) ∧ decode 0x001E7403 = .ok (.rdblk 0x74 30) ∧
  decode 0x00063B03 = .ok (.rdblk 0x3B 6) ∧ decode 0x00000004 = .ok .init ∧
  decode 0x00000005 = .ok .fifoOn ∧ decode 0x00000006 = .ok .fifoOff ∧
  decode 0x00000007 = .ok .fifoReset ∧ decode 0x00000008 = .ok .rdstatus ∧
  decode 0x00000009 = .ok .rdcount ∧ decode 0x0000000A = .ok .drain ∧
  decode 0x0006000B = .ok (.decodeFrame 6) ∧ decode 0x0000000C = .ok .acquire ∧
  decode 0x00217403 = .ok (.rdblk 0x74 33) ∧ decode 0x000000F0 = .error .reservedBits ∧
  decode 0x0000000D = .error .reservedOpcode

/-! ### Steps, the host and reset -/

/-- 43_control.md R202, R201, 20_memory.md R73: a sequencer turn is the sequencer's event and a host turn the host's. While
BUSY the sequencer's event is one step of the command that CMD holds; with BUSY = 0 it has no step. That an empty list
`turns` gives the sequencer the turn while BUSY and the host otherwise is the model's choice (log 1), and so is that an
agent with nothing to do leaves the state as it is (log 17). -/
def Obligations.StepRunsTheAcceptedCommand : Prop :=
  ∀ (s : State) (i : Instr) (ts : List Turn),
    (s.busy = true → decode s.cmd = .ok i → s.turns = .sequencer :: ts → step s = exec i { s with turns := ts }) ∧
    (s.busy = true → decode s.cmd = .ok i → s.turns = [] → step s = exec i s) ∧
    (s.busy = false → s.turns = .sequencer :: ts → step s = .next { s with turns := ts }) ∧
    (s.turns = .sequencer :: ts → step s = sequencerTurn { s with turns := ts }) ∧
    (s.busy = true → s.turns = [] → step s = sequencerTurn s) ∧
    (s.turns = .host :: ts → step s = hostTurn { s with turns := ts }) ∧
    (s.busy = false → s.turns = [] → step s = hostTurn s) ∧
    (s.host = [] → hostTurn s = .next s)

/-- 43_control.md R201: the two branches of a host write to CMD. The sub-state of ACQUIRE, which R201 does not name, is
left open. -/
def Obligations.CommandAcceptance : Prop :=
  ∀ (s : State) (w : Word),
    (s.busy = true → hostWrite 0x004 w s = { s with cmdRejected := true }) ∧
    (s.busy = false → hostWrite 0x004 w s =
      { s with
        cmd := w, dev := s.busAddr, errInfo := ⟨.none, 0, 0, 0⟩, busy := true, done := false, stepIx := 0, xcount := 0,
        phase := (hostWrite 0x004 w s).phase })

/-- 20_memory.md R67: a write to CMD, CFG_DEV, CFG_RATE, CFG_BATCH or a DATABUF word while BUSY sets CMD_REJECTED and
changes nothing else. -/
def Obligations.BusyWritesAreRejected : Prop :=
  ∀ (s : State) (off : Offset) (v : Word), s.busy = true →
    off = 0x004 ∨ off = 0x010 ∨ off = 0x014 ∨ off = 0x018 ∨ (0x040 ≤ off.toNat ∧ off.toNat < 0x060) →
    hostWrite off v s = { s with cmdRejected := true }

/-- 20_memory.md R66, with 10_state.md R32, R35 to R37, R45: what an aligned host write does. STATUS is write-1-to-clear at
any time; CFG and DATABUF store while BUSY = 0; a DATABUF word is stored low byte first (20_memory.md R64). -/
def Obligations.HostWriteEffects : Prop :=
  ∀ (s : State) (v : Word),
    hostWrite 0x008 v s =
      { s with
        cmdRejected := s.cmdRejected && !v.getLsbD 8, errSticky := s.errSticky && !v.getLsbD 9,
        cntMisaligned := s.cntMisaligned && !v.getLsbD 10, fifoDisableFailed := s.fifoDisableFailed && !v.getLsbD 11 } ∧
    (s.busy = false →
      hostWrite 0x010 v s = { s with busAddr := v.extractLsb' 0 7, rangeG := v.extractLsb' 8 8 } ∧
      hostWrite 0x014 v s = { s with targetRate := v.extractLsb' 0 16 } ∧
      hostWrite 0x018 v s = { s with nsamp := v.extractLsb' 0 16 }) ∧
    (s.busy = false → s.mem.wf = true → ∀ i : Nat, i < 8 →
      let off : Offset := BitVec.ofNat 15 (0x040 + 4 * i)
      hostWrite off v s = { s with mem := (hostWrite off v s).mem } ∧
      hostRead off (hostWrite off v s) = v ∧
      (∀ j : Nat, j < 4 → (hostWrite off v s).databuf (4 * i + j) = v.extractLsb' (8 * j) 8) ∧
      ∀ a : Nat, a < 0x040 + 4 * i ∨ 0x044 + 4 * i ≤ a → (hostWrite off v s).mem.read a = s.mem.read a) ∧
    ∀ off : Offset, off ≠ 0x004 → off ≠ 0x008 → off ≠ 0x010 → off ≠ 0x014 → off ≠ 0x018 →
      off.toNat < 0x040 ∨ 0x060 ≤ off.toNat → hostWrite off v s = s

/-- 20_memory.md R65: a host read changes no register, no internal element and nothing of the sensor; the host only learns
a word. The second clause is the `poll` of 30_encoding.md R102: that it is one read of STATUS at each of the host's turns
and stays at the head of the host's list while a read shows BUSY is the model's choice (log 23, DESIGN CHOICE), no word of
R65, and so is the record `loads` of the words read (log 4). -/
def Obligations.HostReadsHaveNoSideEffects : Prop :=
  ∀ (s : State) (rest : List HostStmt),
    (∀ off : Offset, s.host = .ld off 4 :: rest → off.toNat % 4 = 0 →
      hostTurn s = .next { s with host := rest, loads := hostRead off s :: s.loads }) ∧
    (s.host = .poll :: rest →
      hostTurn s = .next
        { s with host := if s.busy = true then .poll :: rest else rest, loads := hostRead 0x008 s :: s.loads })

/-- 20_memory.md R63: the block supports 32-bit accesses at multiples of 4; a model refuses every other. -/
def Obligations.UnsupportedAccessIsRefused : Prop :=
  ∀ (s : State) (off : Offset) (width : Nat) (v : Word) (rest : List HostStmt),
    (width ≠ 4 ∨ off.toNat % 4 ≠ 0 → s.host = .ld off width :: rest →
      hostTurn s = .refused .unsupportedHostAccess) ∧
    (width ≠ 4 ∨ off.toNat % 4 ≠ 0 → s.host = .st off width v :: rest →
      hostTurn s = .refused .unsupportedHostAccess) ∧
    (width = 4 → off.toNat % 4 = 0 → s.host = .st off width v :: rest →
      hostTurn s = .next (hostWrite off v { s with host := rest }))

/-- 20_memory.md R62, R79, 10_state.md R23, R24: ID is constant, reserved offsets and every reserved field read 0. -/
def Obligations.ReservedReadsAreZero : Prop :=
  ∀ s : State,
    hostRead 0x000 s = 0x56410001 ∧ hostRead 0x03C s = 0 ∧
    (∀ off : Offset, 0x060 ≤ off.toNat → off.toNat < 0x4000 → hostRead off s = 0) ∧
    (hostRead 0x008 s).getLsbD 7 = false ∧ (hostRead 0x008 s).extractLsb' 12 4 = 0 ∧
    (hostRead 0x008 s).extractLsb' 24 8 = 0 ∧
    (hostRead 0x010 s).getLsbD 7 = false ∧ (hostRead 0x010 s).extractLsb' 16 16 = 0 ∧
    (hostRead 0x014 s).extractLsb' 16 16 = 0 ∧ (hostRead 0x018 s).extractLsb' 16 16 = 0 ∧
    (hostRead 0x01C s).extractLsb' 8 24 = 0 ∧ (hostRead 0x020 s).extractLsb' 16 16 = 0 ∧
    (hostRead 0x024 s).extractLsb' 16 16 = 0 ∧ (hostRead 0x028 s).extractLsb' 6 26 = 0 ∧
    (hostRead 0x02C s).extractLsb' 16 16 = 0 ∧ (hostRead 0x030 s).extractLsb' 14 18 = 0 ∧
    (hostRead 0x038 s).extractLsb' 16 16 = 0

/-- 10_state.md R25 to R45: the fields of STATUS and of every other register of R23's map as a host reads them. ERR is the
view of ERRINFO.ERRCODE (60_exceptions.md R210 gives its codes); ACCLEN reads the length of the accumulator, whose bound
of 35 (R48) is `State.Inv.accLe`; DATABUF byte j of word i is databuf[4i + j] (20_memory.md R64). ID and the reserved
fields are ReservedReadsAreZero's, SAMPLES is SamplesWindowIsGated's. -/
def Obligations.StatusFieldsAsRead : Prop :=
  ∀ s : State,
    (hostRead 0x008 s).getLsbD 0 = s.busy ∧ (hostRead 0x008 s).getLsbD 1 = s.done ∧
    (hostRead 0x008 s).getLsbD 2 = ((hostRead 0x00C s).extractLsb' 0 4 != 0) ∧
    (hostRead 0x008 s).getLsbD 3 = s.initDone ∧
    ((hostRead 0x008 s).extractLsb' 4 3).toNat =
      (match s.sstate with
        | .idle => 0
        | .fifoArmed => 1
        | .accumulating => 2
        | .complete => 3
        | .overflow => 4) ∧
    (hostRead 0x008 s).getLsbD 8 = s.cmdRejected ∧ (hostRead 0x008 s).getLsbD 9 = s.errSticky ∧
    (hostRead 0x008 s).getLsbD 10 = s.cntMisaligned ∧ (hostRead 0x008 s).getLsbD 11 = s.fifoDisableFailed ∧
    (hostRead 0x008 s).extractLsb' 16 8 = s.lastIntStatus ∧
    hostRead 0x004 s = s.cmd ∧
    ((hostRead 0x00C s).extractLsb' 0 4).toNat =
      (match s.errInfo.kind with
        | .none => 0
        | .configuration => 1
        | .fifoOverflow => 2
        | .framing => 3
        | .bus => 4
        | .illegalCommand => 5
        | .notInitialized => 6) ∧
    (hostRead 0x00C s).extractLsb' 4 4 = s.errInfo.subCause ∧
    (hostRead 0x00C s).extractLsb' 8 8 = s.errInfo.errStep ∧
    (hostRead 0x00C s).extractLsb' 16 16 = s.errInfo.busErr ∧
    (hostRead 0x010 s).extractLsb' 0 7 = s.busAddr ∧ (hostRead 0x010 s).extractLsb' 8 8 = s.rangeG ∧
    (hostRead 0x014 s).extractLsb' 0 16 = s.targetRate ∧ (hostRead 0x018 s).extractLsb' 0 16 = s.nsamp ∧
    (hostRead 0x01C s).extractLsb' 0 8 = s.divisor ∧
    (hostRead 0x020 s).extractLsb' 0 8 = s.fsCode ∧ (hostRead 0x020 s).extractLsb' 8 8 = s.range ∧
    (hostRead 0x024 s).extractLsb' 0 16 = s.fifoCnt ∧
    (s.acc.length ≤ 35 → ((hostRead 0x028 s).extractLsb' 0 6).toNat = s.acc.length) ∧
    (hostRead 0x02C s).extractLsb' 0 16 = s.sampCnt ∧
    (hostRead 0x030 s).extractLsb' 0 8 = s.rdByte ∧ (hostRead 0x030 s).extractLsb' 8 6 = s.lastLen ∧
    (hostRead 0x034 s).extractLsb' 0 16 = s.decX ∧ (hostRead 0x034 s).extractLsb' 16 16 = s.decY ∧
    (hostRead 0x038 s).extractLsb' 0 16 = s.decZ ∧
    ∀ i j : Nat, i < 8 → j < 4 →
      (hostRead (BitVec.ofNat 15 (0x040 + 4 * i)) s).extractLsb' (8 * j) 8 = s.databuf (4 * i + j)

/-- 10_state.md R46: the SAMPLES window shows sample k only in COMPLETE and for k < nlat; it ignores writes. -/
def Obligations.SamplesWindowIsGated : Prop :=
  ∀ (s : State) (k : Nat), k < 2048 →
    (s.sstate = .complete → k < s.nlat.toNat →
      hostRead (BitVec.ofNat 15 (0x4000 + 8 * k)) s = (s.sample k).y ++ (s.sample k).x ∧
      hostRead (BitVec.ofNat 15 (0x4004 + 8 * k)) s = (0 : Half) ++ (s.sample k).z) ∧
    (s.sstate ≠ .complete ∨ s.nlat.toNat ≤ k →
      hostRead (BitVec.ofNat 15 (0x4000 + 8 * k)) s = 0 ∧ hostRead (BitVec.ofNat 15 (0x4004 + 8 * k)) s = 0) ∧
    ∀ v : Word, hostWrite (BitVec.ofNat 15 (0x4000 + 8 * k)) v s = s ∧
      hostWrite (BitVec.ofNat 15 (0x4004 + 8 * k)) v s = s

/-- 42_batch_sampler.md R183, R184, 20_memory.md R67: no host write stops or changes a running command; it can only move the
four sticky bits. -/
def Obligations.HostWritesDoNotDisturbACommand : Prop :=
  ∀ (s : State) (off : Offset) (v : Word), s.busy = true →
    hostWrite off v s =
      { s with
        cmdRejected := (hostWrite off v s).cmdRejected, errSticky := (hostWrite off v s).errSticky,
        cntMisaligned := (hostWrite off v s).cntMisaligned,
        fifoDisableFailed := (hostWrite off v s).fifoDisableFailed }

/-- 70_reset_and_hazards.md R241: after a block reset from any state, every register reads its reset value, the internal
elements have theirs, and the invariants hold. -/
def Obligations.ResetValues : Prop :=
  ∀ s : State,
    hostRead 0x000 (blockReset s) = 0x56410001 ∧
    (∀ off : Offset, off.toNat % 4 = 0 → off ≠ 0 → hostRead off (blockReset s) = 0) ∧
    (blockReset s).acc = [] ∧ (blockReset s).nlat = 0 ∧ (blockReset s).cmd = 0 ∧ (blockReset s).dev = 0 ∧
    (blockReset s).stepIx = 0 ∧ (blockReset s).xcount = 0 ∧ (blockReset s).phase = .none ∧
    (blockReset s).Inv

/-- 70_reset_and_hazards.md R240, R242, R243: a reset is one event; it abandons the command with no completion and no error,
makes no transaction and leaves the sensor and the host alone (log 15). That the whole byte memory is empty, so that the
sample memory, whose contents R241 leaves unspecified, reads 0 (log 7), and that the model's own `cntHigh` is 0 (log 8),
are the model's choices. -/
def Obligations.ResetAbandonsTheCommand : Prop :=
  ∀ (s : State) (ts : List Turn), s.turns = .reset :: ts →
    step s = .next
      { State.reset with
        params := s.params, sensor := s.sensor, draws := s.draws, trace := s.trace, host := s.host,
        loads := s.loads, turns := ts }

/-! ### NOP and the bus primitives -/

/-- 43_control.md R200, R203: NOP completes in one step and changes nothing but BUSY, DONE and the step index. -/
def Obligations.NopCompletes : Prop :=
  ∀ s : State, s.errInfo = .zero → exec .nop s = .next (ended s)

/-- 40_bus_primitive.md R110: WRREG makes one transaction, BusWrite(dev, reg, data), and completes; no register
changes. -/
def Obligations.WrregWritesOneRegister : Prop :=
  ∀ (s : State) (reg data : Byte) (l : List Byte) (rest : List SensorAnswer),
    s.errInfo = .zero → s.stepIx = 0 → s.sensor = .ok l :: rest →
    exec (.wrreg reg data) s = .next (afterOk (.write s.dev reg data) [] rest s) ∧
    exec (.wrreg reg data) (afterOk (.write s.dev reg data) [] rest s) =
      .next (ended (afterOk (.write s.dev reg data) [] rest s))

/-- 40_bus_primitive.md R112: RDREG puts the byte read into RDATA.BYTE, whatever the register; LAST_INT_STATUS, FIFOCNT
and LASTLEN are not written. -/
def Obligations.RdregReadsOneRegister : Prop :=
  ∀ (s : State) (reg b : Byte) (rest : List SensorAnswer),
    s.errInfo = .zero → s.stepIx = 0 → s.sensor = .ok [b] :: rest →
    let t := { afterOk (.read s.dev reg) [b] rest s with rdByte := b }
    exec (.rdreg reg) s = .next t ∧ exec (.rdreg reg) t = .next (ended t)

/-- 40_bus_primitive.md R114, 10_state.md R45: RDBLK stores the bytes returned in databuf[0 .. L-1], leaves the others, and
sets LASTLEN to L; FIFOCNT is not written. -/
def Obligations.RdblkFillsTheBuffer : Prop :=
  ∀ (s : State) (reg len : Byte) (l : List Byte) (rest : List SensorAnswer),
    s.errInfo = .zero → s.stepIx = 0 → s.mem.wf = true → 1 ≤ len.toNat → len.toNat ≤ 32 →
    FitsBlock s.params len.toNat l → s.sensor = .ok l :: rest →
    ∃ m : Memory,
      exec (.rdblk reg len) s = .next
        { afterOk (.readBlock s.dev reg len.toNat) l rest s with mem := m, lastLen := BitVec.ofNat 6 l.length } ∧
      (∀ i : Nat, i < l.length → l[i]? = some (m.read (0x040 + i))) ∧
      (∀ a : Nat, a < 0x040 ∨ 0x040 + l.length ≤ a → m.read a = s.mem.read a) ∧
      ∀ t, exec (.rdblk reg len) s = .next t → exec (.rdblk reg len) t = .next (ended t)

/-! ### The sensor driver -/

/-- 41_sensor_driver.md R130, R144, 43_control.md R205: INIT's seven steps when every write succeeds: the five writes in
order, DIVISOR and SCALE, INIT_DONE. The divisor written is divcalc of the target rate (DivisorCalculator). -/
def Obligations.InitProgramsTheSensor : Prop :=
  ∀ (s : State) (code : Byte) (l0 l1 l2 l3 l4 : List Byte) (rest : List SensorAnswer), s.Accepted →
    (s.rangeG = 2 ∧ code = 0 ∨ s.rangeG = 4 ∧ code = 8 ∨ s.rangeG = 8 ∧ code = 16 ∨ s.rangeG = 16 ∧ code = 24) →
    s.targetRate ≠ 0 → s.sensor = .ok l0 :: .ok l1 :: .ok l2 :: .ok l3 :: .ok l4 :: rest →
    exec .init s = .next { afterOk (.write s.dev s.params.A_PWR_MGMT_1 s.params.V_DEVICE_RESET) []
        (.ok l1 :: .ok l2 :: .ok l3 :: .ok l4 :: rest) s with initDone := false } ∧
    execN 7 .init s = .next
      { s with
        busy := false, done := true, phase := .none, stepIx := 7, xcount := 5, sensor := rest, draws := s.draws + 5,
        initDone := true, divisor := divcalc s.targetRate, fsCode := code, range := s.rangeG,
        trace :=
          ⟨.write s.dev s.params.A_INT_ENABLE s.params.V_INT_ENABLE, .ok []⟩ ::
          ⟨.write s.dev s.params.A_PWR_MGMT_1 s.params.V_CLK_PLL, .ok []⟩ ::
          ⟨.write s.dev s.params.A_ACCEL_CONFIG code, .ok []⟩ ::
          ⟨.write s.dev s.params.A_SMPLRT_DIV (divcalc s.targetRate), .ok []⟩ ::
          ⟨.write s.dev s.params.A_PWR_MGMT_1 s.params.V_DEVICE_RESET, .ok []⟩ :: s.trace }

/-- 41_sensor_driver.md R131, 60_exceptions.md R211: the range check, then the rate check, both before any transaction and
before INIT_DONE is cleared; the command ends in that step. -/
def Obligations.InitValidationOrder : Prop :=
  ∀ s : State, s.errInfo = .zero → s.stepIx = 0 → s.phase = .none →
    (s.rangeG ≠ 2 ∧ s.rangeG ≠ 4 ∧ s.rangeG ≠ 8 ∧ s.rangeG ≠ 16 →
      exec .init s = .next (ended (recorded .configuration 1 0 0 s))) ∧
    (s.rangeG = 2 ∨ s.rangeG = 4 ∨ s.rangeG = 8 ∨ s.rangeG = 16 → s.targetRate = 0 →
      exec .init s = .next (ended (recorded .configuration 2 0 0 s)))

/-- 41_sensor_driver.md R132, R134, R139: the FIFO reset sequence is disable, pulse, re-enable, in this order, in
FIFO_RESET and at the front of FIFO_ON, which then enables the accelerometer's FIFO writes. FIFOCNT is not touched. -/
def Obligations.FifoSequences : Prop :=
  ∀ (s : State) (l : List Byte) (rest : List SensorAnswer), s.errInfo = .zero → s.sensor = .ok l :: rest →
    (s.stepIx = 0 →
      exec .fifoReset s = .next (afterOk (.write s.dev s.params.A_USER_CTRL s.params.V_UC_OFF) [] rest s) ∧
      exec .fifoOn s = .next (afterOk (.write s.dev s.params.A_USER_CTRL s.params.V_UC_OFF) [] rest s)) ∧
    (s.stepIx = 1 →
      exec .fifoReset s = .next (afterOk (.write s.dev s.params.A_USER_CTRL s.params.V_UC_FIFO_RESET) [] rest s) ∧
      exec .fifoOn s = .next (afterOk (.write s.dev s.params.A_USER_CTRL s.params.V_UC_FIFO_RESET) [] rest s)) ∧
    (s.stepIx = 2 →
      exec .fifoReset s = .next (afterOk (.write s.dev s.params.A_USER_CTRL s.params.V_UC_FIFO_ON) [] rest s) ∧
      exec .fifoOn s = .next (afterOk (.write s.dev s.params.A_USER_CTRL s.params.V_UC_FIFO_ON) [] rest s)) ∧
    (s.stepIx = 3 →
      exec .fifoReset s = .next (ended s) ∧
      exec .fifoOn s = .next (afterOk (.write s.dev s.params.A_FIFO_EN s.params.V_FIFO_EN_ACCEL) [] rest s)) ∧
    (s.stepIx = 4 → exec .fifoOn s = .next (ended s))

/-- 41_sensor_driver.md R133: FIFO_OFF is one write and leaves FIFOCNT and A_USER_CTRL alone. -/
def Obligations.FifoOffWritesOnce : Prop :=
  ∀ (s : State) (l : List Byte) (rest : List SensorAnswer),
    s.errInfo = .zero → s.stepIx = 0 → s.sensor = .ok l :: rest →
    let t := afterOk (.write s.dev s.params.A_FIFO_EN s.params.V_FIFO_EN_OFF) [] rest s
    exec .fifoOff s = .next t ∧ exec .fifoOff t = .next (ended t)

/-- 41_sensor_driver.md R135: RDSTATUS stores the byte in RDATA.BYTE and LAST_INT_STATUS, also with the overflow bit set;
it raises no FifoOverflowError. -/
def Obligations.RdstatusCachesTheByte : Prop :=
  ∀ (s : State) (b : Byte) (rest : List SensorAnswer),
    s.errInfo = .zero → s.stepIx = 0 → s.sensor = .ok [b] :: rest →
    let t := { afterOk (.read s.dev s.params.A_INT_STATUS) [b] rest s with rdByte := b, lastIntStatus := b }
    exec .rdstatus s = .next t ∧ exec .rdstatus t = .next (ended t)

/-- 41_sensor_driver.md R136, R147: RDCOUNT reads the high byte, then the low byte; FIFOCNT becomes high*256 + low only
after both; CNT_MISALIGNED is set when it is no multiple of 6 and is never cleared here. The high byte waits in the
model's own field `cntHigh` (log 8, DESIGN CHOICE). -/
def Obligations.RdcountRefreshesTheCount : Prop :=
  ∀ (s : State) (h l : Byte) (rest : List SensorAnswer),
    s.errInfo = .zero → s.stepIx = 0 → s.sensor = .ok [h] :: .ok [l] :: rest →
    let t1 := { afterOk (.read s.dev s.params.A_FIFO_COUNTH) [h] (.ok [l] :: rest) s with cntHigh := h }
    let t2 := { afterOk (.read s.dev s.params.A_FIFO_COUNTL) [l] rest t1 with
      fifoCnt := BitVec.ofNat 16 (h.toNat * 256 + l.toNat),
      cntMisaligned := s.cntMisaligned || decide ((h.toNat * 256 + l.toNat) % 6 ≠ 0) }
    exec .rdcount s = .next t1 ∧ exec .rdcount t1 = .next t2 ∧ exec .rdcount t2 = .next (ended t2)

/-- 41_sensor_driver.md R137, R148: DRAIN with nothing cached makes no transaction, sets LASTLEN to 0 and completes;
otherwise it is one block read of min(FIFOCNT, 30) bytes, stored in databuf[0 .. L-1], and FIFOCNT falls by exactly L. -/
def Obligations.DrainReadsOneBurst : Prop :=
  ∀ s : State, s.errInfo = .zero → s.stepIx = 0 →
    (s.fifoCnt = 0 → exec .drain s = .next { ended s with lastLen := 0 }) ∧
    ∀ (l : List Byte) (rest : List SensorAnswer), s.fifoCnt ≠ 0 → s.mem.wf = true →
      FitsBlock s.params (min s.fifoCnt.toNat 30) l → s.sensor = .ok l :: rest →
      ∃ m : Memory,
        exec .drain s = .next
          { afterOk (.readBlock s.dev s.params.A_FIFO_R_W (min s.fifoCnt.toNat 30)) l rest s with
            mem := m, lastLen := BitVec.ofNat 6 l.length,
            fifoCnt := BitVec.ofNat 16 (s.fifoCnt.toNat - l.length) } ∧
        l.length ≤ 30 ∧ l.length ≤ s.fifoCnt.toNat ∧
        (∀ i : Nat, i < l.length → l[i]? = some (m.read (0x040 + i))) ∧
        (∀ a : Nat, a < 0x040 ∨ 0x040 + l.length ≤ a → m.read a = s.mem.read a) ∧
        ∀ t, exec .drain s = .next t → exec .drain t = .next (ended t)

/-- 41_sensor_driver.md R138: DECODE 6 decodes databuf[0..5] in one step, without a transaction; any other length is a
FramingError that writes no result. -/
def Obligations.DecodeCommand : Prop :=
  ∀ s : State, s.errInfo = .zero → s.stepIx = 0 →
    exec (.decodeFrame 6) s = .next
      { ended s with
        decX := s.databuf 0 ++ s.databuf 1, decY := s.databuf 2 ++ s.databuf 3, decZ := s.databuf 4 ++ s.databuf 5 } ∧
    ∀ len : Byte, len ≠ 6 → s.phase.inCycle = false →
      exec (.decodeFrame len) s = .next (ended (recorded .framing 0 0 0 s))

/-! ### Errors -/

/-- 40_bus_primitive.md R111, 60_exceptions.md R213, R217: in a command other than ACQUIRE a failed transaction records
BusError with the count of earlier transactions and the unmodified code, and changes nothing else, but that INIT's first
step has cleared INIT_DONE before its transaction (41_sensor_driver.md R130); the next step ends the command without a
further transaction. -/
def Obligations.BusErrorStopsTheCommand : Prop :=
  ∀ (i : Instr) (s t : State) (req : BusReq) (c : Half), i ≠ .acquire → s.errInfo = .zero → s.phase = .none →
    exec i s = .next t → t.trace = ⟨req, .err c⟩ :: s.trace →
    t = { recorded .bus 0 (BitVec.ofNat 8 (min s.xcount 255)) c (afterErr req c t.sensor s) with
        initDone := if i = .init ∧ s.stepIx = 0 then false else s.initDone } ∧
    exec i t = .next (ended t)

/-- 60_exceptions.md R212, R232: which errors each command can raise. BusError comes from every command with a
transaction, FramingError from DECODE alone. -/
def Obligations.ErrorCauseTable : Prop :=
  ∀ (i : Instr) (s t : State), s.errInfo = .zero → exec i s = .next t → t.errInfo.kind ≠ .none →
    (t.errInfo.kind = .bus ∧ t.errInfo.subCause = 0 ∧ t.errInfo.errStep = BitVec.ofNat 8 (min s.xcount 255) ∧
      i ≠ .nop ∧ ∀ len, i ≠ .decodeFrame len) ∨
    (i = .init ∧ (t.errInfo = ⟨.configuration, 1, 0, 0⟩ ∨ t.errInfo = ⟨.configuration, 2, 0, 0⟩)) ∨
    (∃ reg len, i = .rdblk reg len ∧ t.errInfo = ⟨.illegalCommand, 3, 0, 0⟩) ∨
    (∃ len, i = .decodeFrame len ∧ len ≠ 6 ∧ t.errInfo = ⟨.framing, 0, 0, 0⟩) ∨
    (i = .acquire ∧ (t.errInfo = ⟨.notInitialized, 0, 0, 0⟩ ∨ t.errInfo = ⟨.configuration, 3, 0, 0⟩ ∨
      t.errInfo = ⟨.fifoOverflow, 0, 0, 0⟩))

/-- 60_exceptions.md R218, R224: a command ends with the first error it raised; no later step of it changes ERRINFO, not
even a failing disable write. -/
def Obligations.FirstErrorIsKept : Prop :=
  ∀ (i : Instr) (s t : State), s.Inv → s.busy = true → decode s.cmd = .ok i → s.errInfo.kind ≠ .none →
    exec i s = .next t → t.errInfo = s.errInfo

/-- 43_control.md R205, R206: a command other than ACQUIRE completes after at most 7 of its steps, whatever the sensor
answers. -/
def Obligations.CommandsCompleteInSevenSteps : Prop :=
  ∀ (i : Instr) (s : State), i ≠ .acquire → s.Accepted →
    ∃ (k : Nat) (t : State), 1 ≤ k ∧ k ≤ 7 ∧ execN k i s = .next t ∧ t.busy = false ∧ t.done = true

/-! ### The batch sampler -/

/-- 42_batch_sampler.md R171: the two start checks, in order, end the command in its first step and change nothing but what
error completion writes. -/
def Obligations.AcquireStartChecks : Prop :=
  ∀ s : State, s.phase = .start →
    (s.initDone = false → exec .acquire s = .next (ended (recorded .notInitialized 0 0 0 s))) ∧
    (s.initDone = true → s.nsamp.toNat = 0 ∨ 2048 < s.nsamp.toNat →
      exec .acquire s = .next (ended (recorded .configuration 3 0 0 s)))

/-- 42_batch_sampler.md R172, R173, R174, R181: the start of cycle with the first arming write, the other three writes, and
the settle step that ends in ACCUMULATING. -/
def Obligations.AcquireArms : Prop :=
  ∀ (s : State) (l : List Byte) (rest : List SensorAnswer),
    (s.phase = .start → s.sensor = .ok l :: rest → s.initDone = true → 1 ≤ s.nsamp.toNat → s.nsamp.toNat ≤ 2048 →
      exec .acquire s = .next
        { afterOk (.write s.dev s.params.A_USER_CTRL s.params.V_UC_OFF) [] rest s with
          nlat := s.nsamp, sampCnt := 0, acc := [], fifoCnt := 0, sstate := .fifoArmed, phase := .arm1 }) ∧
    (s.phase = .arm1 → s.sensor = .ok l :: rest → exec .acquire s = .next
      { afterOk (.write s.dev s.params.A_USER_CTRL s.params.V_UC_FIFO_RESET) [] rest s with phase := .arm2 }) ∧
    (s.phase = .arm2 → s.sensor = .ok l :: rest → exec .acquire s = .next
      { afterOk (.write s.dev s.params.A_USER_CTRL s.params.V_UC_FIFO_ON) [] rest s with phase := .arm3 }) ∧
    (s.phase = .arm3 → s.sensor = .ok l :: rest → exec .acquire s = .next
      { afterOk (.write s.dev s.params.A_FIFO_EN s.params.V_FIFO_EN_ACCEL) [] rest s with phase := .settle }) ∧
    (s.phase = .settle → exec .acquire s = .next
      { s with sstate := .accumulating, phase := .poll, stepIx := s.stepIx + 1 })

/-- 42_batch_sampler.md R175, R176, R177: a poll with nothing cached reads the status once, caches it, and tests overflow
before data-ready on that one byte. The next phases are R181's, but for the overflow's: R181 writes OVF there, a phase
without a row, and that the step ends in phase ABORT is the model's reading of 60_exceptions.md R213 and R215 (log 26,
DEDUCED). -/
def Obligations.AcquirePolls : Prop :=
  ∀ (s : State) (b : Byte) (rest : List SensorAnswer), s.phase = .poll → s.fifoCnt = 0 → s.sensor = .ok [b] :: rest →
    let t := { afterOk (.read s.dev s.params.A_INT_STATUS) [b] rest s with lastIntStatus := b }
    (b.getLsbD s.params.B_OFLOW.val = true →
      exec .acquire s = .next { recorded .fifoOverflow 0 0 0 t with sstate := .overflow, phase := .abort }) ∧
    (b.getLsbD s.params.B_OFLOW.val = false → b.getLsbD s.params.B_DRDY.val = true →
      exec .acquire s = .next { t with phase := .cnth }) ∧
    (b.getLsbD s.params.B_OFLOW.val = false → b.getLsbD s.params.B_DRDY.val = false →
      exec .acquire s = .next t)

/-- 42_batch_sampler.md R177, R181, 41_sensor_driver.md R147: the count refresh of a cycle, high byte first; a count of 0
polls again. That the high byte waits between the two reads in the model's own field `cntHigh` is the model's choice
(log 8, DESIGN CHOICE); R147 has a local variable there. -/
def Obligations.AcquireRefreshesTheCount : Prop :=
  ∀ (s : State) (b : Byte) (rest : List SensorAnswer), s.sensor = .ok [b] :: rest →
    (s.phase = .cnth → exec .acquire s = .next
      { afterOk (.read s.dev s.params.A_FIFO_COUNTH) [b] rest s with cntHigh := b, phase := .cntl }) ∧
    (s.phase = .cntl → exec .acquire s = .next
      { afterOk (.read s.dev s.params.A_FIFO_COUNTL) [b] rest s with
        fifoCnt := BitVec.ofNat 16 (s.cntHigh.toNat * 256 + b.toNat)
        cntMisaligned := s.cntMisaligned || decide ((s.cntHigh.toNat * 256 + b.toNat) % 6 ≠ 0)
        phase := if s.cntHigh.toNat * 256 + b.toNat = 0 then .poll else .drain })

/-- 42_batch_sampler.md R178, R179, R182: a drain takes min(FIFOCNT, 30) bytes, FIFOCNT falls by what was returned, and the
stream that the batch and the accumulator stand for grows by exactly those bytes: no byte is lost, reordered or decoded
across a frame boundary. Whole frames are decoded while the batch is not full; DATABUF and RDATA are not written. -/
def Obligations.AcquireDrainExtendsTheStream : Prop :=
  ∀ (s : State) (l : List Byte) (rest : List SensorAnswer), s.Inv → s.phase = .drain → s.fifoCnt ≠ 0 →
    FitsBlock s.params (min s.fifoCnt.toNat 30) l → s.sensor = .ok l :: rest →
    ∃ t : State, exec .acquire s = .next t ∧
      t = { afterOk (.readBlock s.dev s.params.A_FIFO_R_W (min s.fifoCnt.toNat 30)) l rest s with
        fifoCnt := BitVec.ofNat 16 (s.fifoCnt.toNat - l.length)
        acc := t.acc, sampCnt := t.sampCnt, mem := t.mem, phase := t.phase } ∧
      t.stream = s.stream ++ l ∧
      t.sampCnt.toNat = min s.nlat.toNat ((6 * s.sampCnt.toNat + s.acc.length + l.length) / 6) ∧
      (∀ a : Nat, a < 0x4000 + 8 * s.sampCnt.toNat ∨ 0x4000 + 8 * t.sampCnt.toNat ≤ a → t.mem.read a = s.mem.read a) ∧
      t.phase = (if t.sampCnt = s.nlat then .finish
        else if s.fifoCnt.toNat = l.length then .poll else .drain)

/-- 42_batch_sampler.md R180, R181, 60_exceptions.md R215: the completion write; on Ok the leftover bytes are discarded and
SSTATE is COMPLETE, then the command completes; on Err the cycle ends with BusError and SSTATE IDLE without a second
disable write. FIFOCNT stays as it is. -/
def Obligations.AcquireFinishes : Prop :=
  ∀ (s : State) (rest : List SensorAnswer),
    (∀ l : List Byte, s.phase = .finish → s.sensor = .ok l :: rest → exec .acquire s = .next
      { afterOk (.write s.dev s.params.A_FIFO_EN s.params.V_FIFO_EN_OFF) [] rest s with
        acc := [], sstate := .complete, phase := .doneComplete }) ∧
    (∀ c : Half, s.phase = .finish → s.sensor = .err c :: rest → exec .acquire s = .next
      { recorded .bus 0 (BitVec.ofNat 8 (min s.xcount 255)) c
          (afterErr (.write s.dev s.params.A_FIFO_EN s.params.V_FIFO_EN_OFF) c rest s) with
        sstate := .idle, phase := .idleEnd }) ∧
    (s.phase = .doneComplete → exec .acquire s = .next (ended s)) ∧
    (s.phase = .idleEnd → exec .acquire s = .next (ended s))

/-- 60_exceptions.md R215, R216: the abort is one disable write; on Err only FIFO_DISABLE_FAILED is set, with no second
error; SSTATE goes to IDLE either way. -/
def Obligations.AcquireAborts : Prop :=
  ∀ (s : State) (rest : List SensorAnswer), s.phase = .abort →
    (∀ l : List Byte, s.sensor = .ok l :: rest → exec .acquire s = .next
      { afterOk (.write s.dev s.params.A_FIFO_EN s.params.V_FIFO_EN_OFF) [] rest s with
        sstate := .idle, phase := .idleEnd }) ∧
    ∀ c : Half, s.sensor = .err c :: rest → exec .acquire s = .next
      { afterErr (.write s.dev s.params.A_FIFO_EN s.params.V_FIFO_EN_OFF) c rest s with
        fifoDisableFailed := true, sstate := .idle, phase := .idleEnd }

/-- 60_exceptions.md R213, R215, 42_batch_sampler.md R172, R181: a failed transaction of a cycle before its completion write
records BusError and goes to the abort; what earlier steps did stays. The second clause is the first arming write, which
runs in the step of START after the checks and the start of cycle: nlat, SAMPCNT, acc, FIFOCNT and SSTATE have been
set. -/
def Obligations.AcquireBusErrorGoesToAbort : Prop :=
  ∀ (s t : State) (req : BusReq) (c : Half),
    exec .acquire s = .next t → t.trace = ⟨req, .err c⟩ :: s.trace →
    (s.phase.beforeFinish = true →
      t = { recorded .bus 0 (BitVec.ofNat 8 (min s.xcount 255)) c (afterErr req c t.sensor s) with
        phase := .abort }) ∧
    (s.phase = .start →
      req = .write s.dev s.params.A_USER_CTRL s.params.V_UC_OFF ∧
      t = { recorded .bus 0 (BitVec.ofNat 8 (min s.xcount 255)) c (afterErr req c t.sensor s) with
        nlat := s.nsamp, sampCnt := 0, acc := [], fifoCnt := 0, sstate := .fifoArmed, phase := .abort })

/-- 42_batch_sampler.md R185: while every status read returns neither data-ready nor overflow, ACQUIRE stays BUSY and
polling, for as many steps as there are such answers. -/
def Obligations.AcquirePollsWithoutEnd : Prop :=
  ∀ (k : Nat) (s : State) (b : Byte) (rest : List SensorAnswer),
    s.busy = true → s.phase = .poll → s.fifoCnt = 0 →
    b.getLsbD s.params.B_OFLOW.val = false → b.getLsbD s.params.B_DRDY.val = false →
    s.sensor = List.replicate k (.ok [b]) ++ rest →
    ∃ t : State, execN k .acquire s = .next t ∧ t.busy = true ∧ t.phase = .poll ∧ t.sstate = s.sstate ∧
      t.sampCnt = s.sampCnt ∧ t.acc = s.acc ∧ t.errInfo = s.errInfo ∧ t.sensor = rest ∧ t.stepIx = s.stepIx + k

/-- 42_batch_sampler.md R179, R182, R186, 43_control.md R205 (the source's examples S4 and S7): a sensor that reports
data-ready, a count of 6N and then the 6N bytes in bursts of 30 gives a COMPLETE batch of exactly N samples, sample k
being frame k, after 10 + ceil(6N/30) steps. -/
def Obligations.AcquireDeliversTheBatch : Prop :=
  ∀ (s : State) (data : List Byte) (status high low : Byte) (rest : List SensorAnswer),
    s.Accepted → s.Inv → s.phase = .start → s.initDone = true →
    1 ≤ s.nsamp.toNat → s.nsamp.toNat ≤ 2048 → data.length = 6 * s.nsamp.toNat →
    status.getLsbD s.params.B_OFLOW.val = false → status.getLsbD s.params.B_DRDY.val = true →
    high.toNat * 256 + low.toNat = 6 * s.nsamp.toNat →
    s.sensor = .ok [] :: .ok [] :: .ok [] :: .ok [] :: .ok [status] :: .ok [high] :: .ok [low] ::
      (burstsOf data.length data ++ .ok [] :: rest) →
    ∃ t : State, execN (10 + (data.length + 29) / 30) .acquire s = .next t ∧
      t.busy = false ∧ t.done = true ∧ t.errInfo = .zero ∧ t.sstate = .complete ∧
      t.nlat = s.nsamp ∧ t.sampCnt = s.nsamp ∧ t.fifoCnt = 0 ∧ t.acc = [] ∧ t.sensor = rest ∧
      ∀ k : Nat, k < s.nsamp.toNat → frameBytes (t.sample k) = (data.drop (6 * k)).take 6

/-! ### The whole machine -/

/-- 10_state.md R48, 70_reset_and_hazards.md R241: the invariant holds right after reset. -/
def Obligations.ResetSatisfiesTheInvariant : Prop :=
  State.reset.Inv

/-- 10_state.md R48, 42_batch_sampler.md R181: every event of the machine, of whichever agent, keeps the invariant. -/
def Obligations.StepKeepsTheInvariant : Prop :=
  ∀ s t : State, s.Inv → step s = .next t → t.Inv

/-- 60_exceptions.md R223, 20_memory.md R63: the machine has no fault; the one refusal is the host's access of a width or
alignment that the spec excludes. -/
def Obligations.OnlyUnsupportedAccessesAreRefused : Prop :=
  ∀ s : State,
    (∃ t, step s = .next t) ∨
    (step s = .refused .unsupportedHostAccess ∧
      ∃ (off : Offset) (width : Nat) (rest : List HostStmt), (width ≠ 4 ∨ off.toNat % 4 ≠ 0) ∧
        (s.host = .ld off width :: rest ∨ ∃ v, s.host = .st off width v :: rest))

/-- 43_control.md R202, 20_memory.md R69, 40_bus_primitive.md R115, 10_state.md R47: a step adds 1 to `step` and makes at
most one transaction, to the latched device; `xcount` counts the successful ones. -/
def Obligations.OneTransactionPerStep : Prop :=
  ∀ (i : Instr) (s t : State), exec i s = .next t →
    t.stepIx = s.stepIx + 1 ∧
    ((t.trace = s.trace ∧ t.xcount = s.xcount ∧ t.draws = s.draws ∧ t.sensor = s.sensor) ∨
      ∃ x : Transaction, t.trace = x :: s.trace ∧ x.req.dev = s.dev ∧ t.draws = s.draws + 1 ∧
        ((∃ l, x.ans = .ok l ∧ t.xcount = s.xcount + 1) ∨ (∃ c, x.ans = .err c ∧ t.xcount = s.xcount)))

/-- 10_state.md R32: no command clears a sticky bit, and neither does a host write other than to STATUS. -/
def Obligations.StickyBitsAreNotClearedByCommands : Prop :=
  (∀ (i : Instr) (s t : State), exec i s = .next t →
    (s.cmdRejected = true → t.cmdRejected = true) ∧ (s.errSticky = true → t.errSticky = true) ∧
    (s.cntMisaligned = true → t.cntMisaligned = true) ∧ (s.fifoDisableFailed = true → t.fifoDisableFailed = true)) ∧
  ∀ (off : Offset) (v : Word) (s : State), off ≠ 0x008 →
    (s.cmdRejected = true → (hostWrite off v s).cmdRejected = true) ∧ (hostWrite off v s).errSticky = s.errSticky ∧
    (hostWrite off v s).cntMisaligned = s.cntMisaligned ∧ (hostWrite off v s).fifoDisableFailed = s.fifoDisableFailed

/-- 10_state.md R30, R31, R40: SSTATE is changed by ACQUIRE alone among the commands, INIT_DONE by INIT alone, FIFOCNT by
RDCOUNT, DRAIN and ACQUIRE alone, and no host write changes one of them. Only a running ACQUIRE has a phase (R47;
`State.Inv.phaseRuns`), hence the premise. -/
def Obligations.WritersOfSamplerStateInitDoneAndCount : Prop :=
  (∀ (i : Instr) (s t : State), (i ≠ .acquire → s.phase = .none) → exec i s = .next t →
    (i ≠ .acquire → t.sstate = s.sstate ∧ t.nlat = s.nlat ∧ t.sampCnt = s.sampCnt ∧ t.acc = s.acc) ∧
    (i ≠ .init → t.initDone = s.initDone) ∧
    (i ≠ .rdcount → i ≠ .drain → i ≠ .acquire → t.fifoCnt = s.fifoCnt)) ∧
  ∀ (off : Offset) (v : Word) (s : State),
    (hostWrite off v s).sstate = s.sstate ∧ (hostWrite off v s).initDone = s.initDone ∧
    (hostWrite off v s).fifoCnt = s.fifoCnt

/-- 10_state.md R52: the frame of the commands that store nothing. Beside what any step may change (`withControl`), each
changes only the registers listed for it, and RDCOUNT also the model's own `cntHigh` (log 8, DESIGN CHOICE); all memory is
unchanged. None of them runs with an ACQUIRE phase (R47;
`State.Inv.phaseRuns`), hence the premise. -/
def Obligations.RegisterCommandFrames : Prop :=
  ∀ s t : State, s.phase = .none →
    (exec .nop s = .next t → t = withControl s t) ∧
    (∀ reg data, exec (.wrreg reg data) s = .next t → t = withControl s t) ∧
    (exec .fifoOn s = .next t → t = withControl s t) ∧
    (exec .fifoOff s = .next t → t = withControl s t) ∧
    (exec .fifoReset s = .next t → t = withControl s t) ∧
    (∀ reg, exec (.rdreg reg) s = .next t → t = { withControl s t with rdByte := t.rdByte }) ∧
    (exec .rdstatus s = .next t →
      t = { withControl s t with rdByte := t.rdByte, lastIntStatus := t.lastIntStatus }) ∧
    (exec .rdcount s = .next t →
      t = { withControl s t with
        fifoCnt := t.fifoCnt, cntMisaligned := t.cntMisaligned, cntHigh := t.cntHigh }) ∧
    (exec .init s = .next t →
      t = { withControl s t with
        initDone := t.initDone, divisor := t.divisor, fsCode := t.fsCode, range := t.range }) ∧
    (∀ len, exec (.decodeFrame len) s = .next t →
      t = { withControl s t with decX := t.decX, decY := t.decY, decZ := t.decZ })

/-- 10_state.md R45, R52: the frame of RDBLK and DRAIN. The bytes stored are databuf[0 .. L-1], L being the number the
step's block read returned; a step without a successful block read stores nothing. The premises are `State.Inv`'s. -/
def Obligations.BufferCommandFrames : Prop :=
  ∀ s t : State, s.mem.wf = true → s.phase = .none →
    (∀ reg len, exec (.rdblk reg len) s = .next t →
      t = { withControl s t with mem := t.mem, lastLen := t.lastLen } ∧
      (∀ req l, t.trace = ⟨req, .ok l⟩ :: s.trace →
        ∀ a : Nat, a < databufBase ∨ databufBase + l.length ≤ a → t.mem.read a = s.mem.read a) ∧
      ((∀ req l, t.trace ≠ ⟨req, .ok l⟩ :: s.trace) → t.mem = s.mem ∧ t.lastLen = s.lastLen)) ∧
    (exec .drain s = .next t →
      t = { withControl s t with mem := t.mem, lastLen := t.lastLen, fifoCnt := t.fifoCnt } ∧
      (∀ req l, t.trace = ⟨req, .ok l⟩ :: s.trace →
        ∀ a : Nat, a < databufBase ∨ databufBase + l.length ≤ a → t.mem.read a = s.mem.read a) ∧
      ((∀ req l, t.trace ≠ ⟨req, .ok l⟩ :: s.trace) → t.mem = s.mem ∧ t.fifoCnt = s.fifoCnt))

/-- 10_state.md R52, 42_batch_sampler.md R178, R179: the frame of ACQUIRE. It stores only to the samples that the step
decodes, `samples[k]` for SAMPCNT <= k < the new SAMPCNT; CFG, DIVISOR, SCALE, RDATA, DEC and DATABUF are unchanged.
`cntHigh` is the model's own field (log 8, DESIGN CHOICE). -/
def Obligations.AcquireFrame : Prop :=
  ∀ s t : State, s.mem.wf = true → s.sampCnt.toNat ≤ s.nlat.toNat → exec .acquire s = .next t →
    t = { withControl s t with
        sstate := t.sstate, lastIntStatus := t.lastIntStatus, fifoCnt := t.fifoCnt, cntMisaligned := t.cntMisaligned
        cntHigh := t.cntHigh, fifoDisableFailed := t.fifoDisableFailed, acc := t.acc, nlat := t.nlat
        sampCnt := t.sampCnt, mem := t.mem } ∧
    ∀ a : Nat,
      (∀ k : Nat, s.sampCnt.toNat ≤ k → k < t.sampCnt.toNat → a < sampleAddr k ∨ sampleAddr k + 6 ≤ a) →
      t.mem.read a = s.mem.read a

/-- 42_batch_sampler.md R186, 70_reset_and_hazards.md R251: while SSTATE stays COMPLETE nothing changes the batch. -/
def Obligations.CompletedBatchIsImmutable : Prop :=
  ∀ s t : State, s.Inv → s.sstate = .complete → step s = .next t → t.sstate = .complete →
    t.nlat = s.nlat ∧ t.sampCnt = s.sampCnt ∧ ∀ k : Nat, k < s.nlat.toNat → t.sample k = s.sample k

/-- 40_bus_primitive.md R116, 43_control.md R204, 20_memory.md R61: the bus kind, the base address and the settle durations
make no difference to any event. -/
def Obligations.OpenParametersDoNotMatter : Prop :=
  ∀ (s t : State) (k : BusKind) (base settle resetSettle : Nat), step s = .next t →
    step (s.withOpenParams k base settle resetSettle) = .next (t.withOpenParams k base settle resetSettle)

/-! ### The pure functions -/

/-- 41_sensor_driver.md R141: the rounding is to the nearest integer, an exact half to the even one. -/
def Obligations.RoundingIsHalfEven : Prop :=
  ∀ t : Nat, 1 ≤ t →
    2 * (8000 : Int) ≤ (2 * roundHalfEven t + 1) * t ∧ (2 * (roundHalfEven t : Int) - 1) * t ≤ 2 * 8000 ∧
    (2 * 8000 = (2 * roundHalfEven t + 1) * t ∨ 2 * (8000 : Int) = (2 * (roundHalfEven t : Int) - 1) * t →
      roundHalfEven t % 2 = 0)

/-- 41_sensor_driver.md R140, R142: the divisor is max(0, min(255, q - 1)) for every rate from 1 to 65535; the clamps act
for t >= 16000 and t <= 31, and 5334 <= t gives 0. -/
def Obligations.DivisorCalculator : Prop :=
  ∀ t : Half, t ≠ 0 →
    ((divcalc t).toNat : Int) = max 0 (min 255 ((roundHalfEven t.toNat : Int) - 1)) ∧
    (16000 ≤ t.toNat → roundHalfEven t.toNat = 0) ∧ (t.toNat ≤ 31 → 257 ≤ roundHalfEven t.toNat) ∧
    (5334 ≤ t.toNat → divcalc t = 0) ∧ (t.toNat ≤ 31 → divcalc t = 255)

/-- 41_sensor_driver.md R146, 20_memory.md R71: the decoder's codes are the big-endian two's-complement values of byte
pairs, each lane from its own two bytes. -/
def Obligations.FrameDecodeIsBigEndian : Prop :=
  ∀ b0 b1 b2 b3 b4 b5 : Byte,
    (decode6 b0 b1 b2 b3 b4 b5).x.toInt = b0.toInt * 256 + b1.toNat ∧
    (decode6 b0 b1 b2 b3 b4 b5).y.toInt = b2.toInt * 256 + b3.toNat ∧
    (decode6 b0 b1 b2 b3 b4 b5).z.toInt = b4.toInt * 256 + b5.toNat

/-- 41_sensor_driver.md R143, R144, 00_scope.md R17: the rate lies between 31.25 and 8000 Hz; the scale factors are the
powers of two from 2^-14 to 2^-11; a physical value is c*r/32768, at most r in size. -/
def Obligations.RatesAndPhysicalValues : Prop :=
  (∀ d : Byte, 31.25 ≤ achievedRate d ∧ achievedRate d ≤ 8000 ∧ achievedRate d * ((d.toNat : Rat) + 1) = 8000) ∧
  scaleFactor 2 = 1 / 2 ^ 14 ∧ scaleFactor 4 = 1 / 2 ^ 13 ∧ scaleFactor 8 = 1 / 2 ^ 12 ∧ scaleFactor 16 = 1 / 2 ^ 11 ∧
  ∀ (c : Half) (r : Byte), physical c r * 32768 = (c.toInt : Rat) * r.toNat ∧
    -(r.toNat : Rat) ≤ physical c r ∧ physical c r ≤ r.toNat
end

