-- ==== Sys2Proof/Laws/State.lean ====
section
/-! SUPPORT. For each named record update of the state, what each field reads after it: later proofs never unfold an
update. -/

namespace Sys2Proof.Machine

open Sys2Proof.Config

/-! `tick` -/

@[simp] theorem tick_cmd (s : State) : (tick s).cmd = s.cmd := rfl
@[simp] theorem tick_busy (s : State) : (tick s).busy = s.busy := rfl
@[simp] theorem tick_done (s : State) : (tick s).done = s.done := rfl
@[simp] theorem tick_initDone (s : State) : (tick s).initDone = s.initDone := rfl
@[simp] theorem tick_sstate (s : State) : (tick s).sstate = s.sstate := rfl
@[simp] theorem tick_cmdRejected (s : State) : (tick s).cmdRejected = s.cmdRejected := rfl
@[simp] theorem tick_errSticky (s : State) : (tick s).errSticky = s.errSticky := rfl
@[simp] theorem tick_cntMisaligned (s : State) : (tick s).cntMisaligned = s.cntMisaligned := rfl
@[simp] theorem tick_fifoDisableFailed (s : State) : (tick s).fifoDisableFailed = s.fifoDisableFailed := rfl
@[simp] theorem tick_lastIntStatus (s : State) : (tick s).lastIntStatus = s.lastIntStatus := rfl
@[simp] theorem tick_errInfo (s : State) : (tick s).errInfo = s.errInfo := rfl
@[simp] theorem tick_busAddr (s : State) : (tick s).busAddr = s.busAddr := rfl
@[simp] theorem tick_rangeG (s : State) : (tick s).rangeG = s.rangeG := rfl
@[simp] theorem tick_targetRate (s : State) : (tick s).targetRate = s.targetRate := rfl
@[simp] theorem tick_nsamp (s : State) : (tick s).nsamp = s.nsamp := rfl
@[simp] theorem tick_divisor (s : State) : (tick s).divisor = s.divisor := rfl
@[simp] theorem tick_fsCode (s : State) : (tick s).fsCode = s.fsCode := rfl
@[simp] theorem tick_range (s : State) : (tick s).range = s.range := rfl
@[simp] theorem tick_fifoCnt (s : State) : (tick s).fifoCnt = s.fifoCnt := rfl
@[simp] theorem tick_sampCnt (s : State) : (tick s).sampCnt = s.sampCnt := rfl
@[simp] theorem tick_rdByte (s : State) : (tick s).rdByte = s.rdByte := rfl
@[simp] theorem tick_lastLen (s : State) : (tick s).lastLen = s.lastLen := rfl
@[simp] theorem tick_decX (s : State) : (tick s).decX = s.decX := rfl
@[simp] theorem tick_decY (s : State) : (tick s).decY = s.decY := rfl
@[simp] theorem tick_decZ (s : State) : (tick s).decZ = s.decZ := rfl
@[simp] theorem tick_mem (s : State) : (tick s).mem = s.mem := rfl
@[simp] theorem tick_acc (s : State) : (tick s).acc = s.acc := rfl
@[simp] theorem tick_nlat (s : State) : (tick s).nlat = s.nlat := rfl
@[simp] theorem tick_dev (s : State) : (tick s).dev = s.dev := rfl
@[simp] theorem tick_stepIx (s : State) : (tick s).stepIx = s.stepIx + 1 := rfl
@[simp] theorem tick_xcount (s : State) : (tick s).xcount = s.xcount := rfl
@[simp] theorem tick_phase (s : State) : (tick s).phase = s.phase := rfl
@[simp] theorem tick_cntHigh (s : State) : (tick s).cntHigh = s.cntHigh := rfl
@[simp] theorem tick_params (s : State) : (tick s).params = s.params := rfl
@[simp] theorem tick_sensor (s : State) : (tick s).sensor = s.sensor := rfl
@[simp] theorem tick_draws (s : State) : (tick s).draws = s.draws := rfl
@[simp] theorem tick_trace (s : State) : (tick s).trace = s.trace := rfl
@[simp] theorem tick_host (s : State) : (tick s).host = s.host := rfl
@[simp] theorem tick_loads (s : State) : (tick s).loads = s.loads := rfl
@[simp] theorem tick_turns (s : State) : (tick s).turns = s.turns := rfl

/-! `complete` -/

@[simp] theorem complete_cmd (s : State) : (complete s).cmd = s.cmd := rfl
@[simp] theorem complete_busy (s : State) : (complete s).busy = false := rfl
@[simp] theorem complete_done (s : State) : (complete s).done = true := rfl
@[simp] theorem complete_initDone (s : State) : (complete s).initDone = s.initDone := rfl
@[simp] theorem complete_sstate (s : State) : (complete s).sstate = s.sstate := rfl
@[simp] theorem complete_cmdRejected (s : State) : (complete s).cmdRejected = s.cmdRejected := rfl
@[simp] theorem complete_errSticky (s : State) : (complete s).errSticky = s.errSticky := rfl
@[simp] theorem complete_cntMisaligned (s : State) : (complete s).cntMisaligned = s.cntMisaligned := rfl
@[simp] theorem complete_fifoDisableFailed (s : State) : (complete s).fifoDisableFailed = s.fifoDisableFailed := rfl
@[simp] theorem complete_lastIntStatus (s : State) : (complete s).lastIntStatus = s.lastIntStatus := rfl
@[simp] theorem complete_errInfo (s : State) : (complete s).errInfo = s.errInfo := rfl
@[simp] theorem complete_busAddr (s : State) : (complete s).busAddr = s.busAddr := rfl
@[simp] theorem complete_rangeG (s : State) : (complete s).rangeG = s.rangeG := rfl
@[simp] theorem complete_targetRate (s : State) : (complete s).targetRate = s.targetRate := rfl
@[simp] theorem complete_nsamp (s : State) : (complete s).nsamp = s.nsamp := rfl
@[simp] theorem complete_divisor (s : State) : (complete s).divisor = s.divisor := rfl
@[simp] theorem complete_fsCode (s : State) : (complete s).fsCode = s.fsCode := rfl
@[simp] theorem complete_range (s : State) : (complete s).range = s.range := rfl
@[simp] theorem complete_fifoCnt (s : State) : (complete s).fifoCnt = s.fifoCnt := rfl
@[simp] theorem complete_sampCnt (s : State) : (complete s).sampCnt = s.sampCnt := rfl
@[simp] theorem complete_rdByte (s : State) : (complete s).rdByte = s.rdByte := rfl
@[simp] theorem complete_lastLen (s : State) : (complete s).lastLen = s.lastLen := rfl
@[simp] theorem complete_decX (s : State) : (complete s).decX = s.decX := rfl
@[simp] theorem complete_decY (s : State) : (complete s).decY = s.decY := rfl
@[simp] theorem complete_decZ (s : State) : (complete s).decZ = s.decZ := rfl
@[simp] theorem complete_mem (s : State) : (complete s).mem = s.mem := rfl
@[simp] theorem complete_acc (s : State) : (complete s).acc = s.acc := rfl
@[simp] theorem complete_nlat (s : State) : (complete s).nlat = s.nlat := rfl
@[simp] theorem complete_dev (s : State) : (complete s).dev = s.dev := rfl
@[simp] theorem complete_stepIx (s : State) : (complete s).stepIx = s.stepIx := rfl
@[simp] theorem complete_xcount (s : State) : (complete s).xcount = s.xcount := rfl
@[simp] theorem complete_phase (s : State) : (complete s).phase = .none := rfl
@[simp] theorem complete_cntHigh (s : State) : (complete s).cntHigh = s.cntHigh := rfl
@[simp] theorem complete_params (s : State) : (complete s).params = s.params := rfl
@[simp] theorem complete_sensor (s : State) : (complete s).sensor = s.sensor := rfl
@[simp] theorem complete_draws (s : State) : (complete s).draws = s.draws := rfl
@[simp] theorem complete_trace (s : State) : (complete s).trace = s.trace := rfl
@[simp] theorem complete_host (s : State) : (complete s).host = s.host := rfl
@[simp] theorem complete_loads (s : State) : (complete s).loads = s.loads := rfl
@[simp] theorem complete_turns (s : State) : (complete s).turns = s.turns := rfl

/-! `errorComplete` -/

@[simp] theorem errorComplete_cmd (s : State) : (errorComplete s).cmd = s.cmd := rfl
@[simp] theorem errorComplete_busy (s : State) : (errorComplete s).busy = false := rfl
@[simp] theorem errorComplete_done (s : State) : (errorComplete s).done = true := rfl
@[simp] theorem errorComplete_initDone (s : State) : (errorComplete s).initDone = s.initDone := rfl
@[simp] theorem errorComplete_sstate (s : State) : (errorComplete s).sstate = s.sstate := rfl
@[simp] theorem errorComplete_cmdRejected (s : State) : (errorComplete s).cmdRejected = s.cmdRejected := rfl
@[simp] theorem errorComplete_errSticky (s : State) : (errorComplete s).errSticky = s.errSticky := rfl
@[simp] theorem errorComplete_cntMisaligned (s : State) : (errorComplete s).cntMisaligned = s.cntMisaligned := rfl
@[simp] theorem errorComplete_fifoDisableFailed (s : State) : (errorComplete s).fifoDisableFailed = s.fifoDisableFailed := rfl
@[simp] theorem errorComplete_lastIntStatus (s : State) : (errorComplete s).lastIntStatus = s.lastIntStatus := rfl
@[simp] theorem errorComplete_errInfo (s : State) : (errorComplete s).errInfo = s.errInfo := rfl
@[simp] theorem errorComplete_busAddr (s : State) : (errorComplete s).busAddr = s.busAddr := rfl
@[simp] theorem errorComplete_rangeG (s : State) : (errorComplete s).rangeG = s.rangeG := rfl
@[simp] theorem errorComplete_targetRate (s : State) : (errorComplete s).targetRate = s.targetRate := rfl
@[simp] theorem errorComplete_nsamp (s : State) : (errorComplete s).nsamp = s.nsamp := rfl
@[simp] theorem errorComplete_divisor (s : State) : (errorComplete s).divisor = s.divisor := rfl
@[simp] theorem errorComplete_fsCode (s : State) : (errorComplete s).fsCode = s.fsCode := rfl
@[simp] theorem errorComplete_range (s : State) : (errorComplete s).range = s.range := rfl
@[simp] theorem errorComplete_fifoCnt (s : State) : (errorComplete s).fifoCnt = s.fifoCnt := rfl
@[simp] theorem errorComplete_sampCnt (s : State) : (errorComplete s).sampCnt = s.sampCnt := rfl
@[simp] theorem errorComplete_rdByte (s : State) : (errorComplete s).rdByte = s.rdByte := rfl
@[simp] theorem errorComplete_lastLen (s : State) : (errorComplete s).lastLen = s.lastLen := rfl
@[simp] theorem errorComplete_decX (s : State) : (errorComplete s).decX = s.decX := rfl
@[simp] theorem errorComplete_decY (s : State) : (errorComplete s).decY = s.decY := rfl
@[simp] theorem errorComplete_decZ (s : State) : (errorComplete s).decZ = s.decZ := rfl
@[simp] theorem errorComplete_mem (s : State) : (errorComplete s).mem = s.mem := rfl
@[simp] theorem errorComplete_acc (s : State) : (errorComplete s).acc = s.acc := rfl
@[simp] theorem errorComplete_nlat (s : State) : (errorComplete s).nlat = s.nlat := rfl
@[simp] theorem errorComplete_dev (s : State) : (errorComplete s).dev = s.dev := rfl
@[simp] theorem errorComplete_stepIx (s : State) : (errorComplete s).stepIx = s.stepIx := rfl
@[simp] theorem errorComplete_xcount (s : State) : (errorComplete s).xcount = s.xcount := rfl
@[simp] theorem errorComplete_phase (s : State) : (errorComplete s).phase = .none := rfl
@[simp] theorem errorComplete_cntHigh (s : State) : (errorComplete s).cntHigh = s.cntHigh := rfl
@[simp] theorem errorComplete_params (s : State) : (errorComplete s).params = s.params := rfl
@[simp] theorem errorComplete_sensor (s : State) : (errorComplete s).sensor = s.sensor := rfl
@[simp] theorem errorComplete_draws (s : State) : (errorComplete s).draws = s.draws := rfl
@[simp] theorem errorComplete_trace (s : State) : (errorComplete s).trace = s.trace := rfl
@[simp] theorem errorComplete_host (s : State) : (errorComplete s).host = s.host := rfl
@[simp] theorem errorComplete_loads (s : State) : (errorComplete s).loads = s.loads := rfl
@[simp] theorem errorComplete_turns (s : State) : (errorComplete s).turns = s.turns := rfl

/-! `note` -/

@[simp] theorem note_cmd (req : BusReq) (ans : SensorAnswer) (s : State) : (note req ans s).cmd = s.cmd := rfl
@[simp] theorem note_busy (req : BusReq) (ans : SensorAnswer) (s : State) : (note req ans s).busy = s.busy := rfl
@[simp] theorem note_done (req : BusReq) (ans : SensorAnswer) (s : State) : (note req ans s).done = s.done := rfl
@[simp] theorem note_initDone (req : BusReq) (ans : SensorAnswer) (s : State) : (note req ans s).initDone = s.initDone := rfl
@[simp] theorem note_sstate (req : BusReq) (ans : SensorAnswer) (s : State) : (note req ans s).sstate = s.sstate := rfl
@[simp] theorem note_cmdRejected (req : BusReq) (ans : SensorAnswer) (s : State) : (note req ans s).cmdRejected = s.cmdRejected := rfl
@[simp] theorem note_errSticky (req : BusReq) (ans : SensorAnswer) (s : State) : (note req ans s).errSticky = s.errSticky := rfl
@[simp] theorem note_cntMisaligned (req : BusReq) (ans : SensorAnswer) (s : State) : (note req ans s).cntMisaligned = s.cntMisaligned := rfl
@[simp] theorem note_fifoDisableFailed (req : BusReq) (ans : SensorAnswer) (s : State) : (note req ans s).fifoDisableFailed = s.fifoDisableFailed := rfl
@[simp] theorem note_lastIntStatus (req : BusReq) (ans : SensorAnswer) (s : State) : (note req ans s).lastIntStatus = s.lastIntStatus := rfl
@[simp] theorem note_errInfo (req : BusReq) (ans : SensorAnswer) (s : State) : (note req ans s).errInfo = s.errInfo := rfl
@[simp] theorem note_busAddr (req : BusReq) (ans : SensorAnswer) (s : State) : (note req ans s).busAddr = s.busAddr := rfl
@[simp] theorem note_rangeG (req : BusReq) (ans : SensorAnswer) (s : State) : (note req ans s).rangeG = s.rangeG := rfl
@[simp] theorem note_targetRate (req : BusReq) (ans : SensorAnswer) (s : State) : (note req ans s).targetRate = s.targetRate := rfl
@[simp] theorem note_nsamp (req : BusReq) (ans : SensorAnswer) (s : State) : (note req ans s).nsamp = s.nsamp := rfl
@[simp] theorem note_divisor (req : BusReq) (ans : SensorAnswer) (s : State) : (note req ans s).divisor = s.divisor := rfl
@[simp] theorem note_fsCode (req : BusReq) (ans : SensorAnswer) (s : State) : (note req ans s).fsCode = s.fsCode := rfl
@[simp] theorem note_range (req : BusReq) (ans : SensorAnswer) (s : State) : (note req ans s).range = s.range := rfl
@[simp] theorem note_fifoCnt (req : BusReq) (ans : SensorAnswer) (s : State) : (note req ans s).fifoCnt = s.fifoCnt := rfl
@[simp] theorem note_sampCnt (req : BusReq) (ans : SensorAnswer) (s : State) : (note req ans s).sampCnt = s.sampCnt := rfl
@[simp] theorem note_rdByte (req : BusReq) (ans : SensorAnswer) (s : State) : (note req ans s).rdByte = s.rdByte := rfl
@[simp] theorem note_lastLen (req : BusReq) (ans : SensorAnswer) (s : State) : (note req ans s).lastLen = s.lastLen := rfl
@[simp] theorem note_decX (req : BusReq) (ans : SensorAnswer) (s : State) : (note req ans s).decX = s.decX := rfl
@[simp] theorem note_decY (req : BusReq) (ans : SensorAnswer) (s : State) : (note req ans s).decY = s.decY := rfl
@[simp] theorem note_decZ (req : BusReq) (ans : SensorAnswer) (s : State) : (note req ans s).decZ = s.decZ := rfl
@[simp] theorem note_mem (req : BusReq) (ans : SensorAnswer) (s : State) : (note req ans s).mem = s.mem := rfl
@[simp] theorem note_acc (req : BusReq) (ans : SensorAnswer) (s : State) : (note req ans s).acc = s.acc := rfl
@[simp] theorem note_nlat (req : BusReq) (ans : SensorAnswer) (s : State) : (note req ans s).nlat = s.nlat := rfl
@[simp] theorem note_dev (req : BusReq) (ans : SensorAnswer) (s : State) : (note req ans s).dev = s.dev := rfl
@[simp] theorem note_stepIx (req : BusReq) (ans : SensorAnswer) (s : State) : (note req ans s).stepIx = s.stepIx := rfl
@[simp] theorem note_xcount (req : BusReq) (ans : SensorAnswer) (s : State) : (note req ans s).xcount = s.xcount := rfl
@[simp] theorem note_phase (req : BusReq) (ans : SensorAnswer) (s : State) : (note req ans s).phase = s.phase := rfl
@[simp] theorem note_cntHigh (req : BusReq) (ans : SensorAnswer) (s : State) : (note req ans s).cntHigh = s.cntHigh := rfl
@[simp] theorem note_params (req : BusReq) (ans : SensorAnswer) (s : State) : (note req ans s).params = s.params := rfl
@[simp] theorem note_sensor (req : BusReq) (ans : SensorAnswer) (s : State) : (note req ans s).sensor = s.sensor := rfl
@[simp] theorem note_draws (req : BusReq) (ans : SensorAnswer) (s : State) : (note req ans s).draws = s.draws := rfl
@[simp] theorem note_trace (req : BusReq) (ans : SensorAnswer) (s : State) : (note req ans s).trace = ⟨req, ans⟩ :: s.trace := rfl
@[simp] theorem note_host (req : BusReq) (ans : SensorAnswer) (s : State) : (note req ans s).host = s.host := rfl
@[simp] theorem note_loads (req : BusReq) (ans : SensorAnswer) (s : State) : (note req ans s).loads = s.loads := rfl
@[simp] theorem note_turns (req : BusReq) (ans : SensorAnswer) (s : State) : (note req ans s).turns = s.turns := rfl

/-! `storeDatabuf` -/

@[simp] theorem storeDatabuf_cmd (l : List Byte) (s : State) : (storeDatabuf l s).cmd = s.cmd := rfl
@[simp] theorem storeDatabuf_busy (l : List Byte) (s : State) : (storeDatabuf l s).busy = s.busy := rfl
@[simp] theorem storeDatabuf_done (l : List Byte) (s : State) : (storeDatabuf l s).done = s.done := rfl
@[simp] theorem storeDatabuf_initDone (l : List Byte) (s : State) : (storeDatabuf l s).initDone = s.initDone := rfl
@[simp] theorem storeDatabuf_sstate (l : List Byte) (s : State) : (storeDatabuf l s).sstate = s.sstate := rfl
@[simp] theorem storeDatabuf_cmdRejected (l : List Byte) (s : State) : (storeDatabuf l s).cmdRejected = s.cmdRejected := rfl
@[simp] theorem storeDatabuf_errSticky (l : List Byte) (s : State) : (storeDatabuf l s).errSticky = s.errSticky := rfl
@[simp] theorem storeDatabuf_cntMisaligned (l : List Byte) (s : State) : (storeDatabuf l s).cntMisaligned = s.cntMisaligned := rfl
@[simp] theorem storeDatabuf_fifoDisableFailed (l : List Byte) (s : State) : (storeDatabuf l s).fifoDisableFailed = s.fifoDisableFailed := rfl
@[simp] theorem storeDatabuf_lastIntStatus (l : List Byte) (s : State) : (storeDatabuf l s).lastIntStatus = s.lastIntStatus := rfl
@[simp] theorem storeDatabuf_errInfo (l : List Byte) (s : State) : (storeDatabuf l s).errInfo = s.errInfo := rfl
@[simp] theorem storeDatabuf_busAddr (l : List Byte) (s : State) : (storeDatabuf l s).busAddr = s.busAddr := rfl
@[simp] theorem storeDatabuf_rangeG (l : List Byte) (s : State) : (storeDatabuf l s).rangeG = s.rangeG := rfl
@[simp] theorem storeDatabuf_targetRate (l : List Byte) (s : State) : (storeDatabuf l s).targetRate = s.targetRate := rfl
@[simp] theorem storeDatabuf_nsamp (l : List Byte) (s : State) : (storeDatabuf l s).nsamp = s.nsamp := rfl
@[simp] theorem storeDatabuf_divisor (l : List Byte) (s : State) : (storeDatabuf l s).divisor = s.divisor := rfl
@[simp] theorem storeDatabuf_fsCode (l : List Byte) (s : State) : (storeDatabuf l s).fsCode = s.fsCode := rfl
@[simp] theorem storeDatabuf_range (l : List Byte) (s : State) : (storeDatabuf l s).range = s.range := rfl
@[simp] theorem storeDatabuf_fifoCnt (l : List Byte) (s : State) : (storeDatabuf l s).fifoCnt = s.fifoCnt := rfl
@[simp] theorem storeDatabuf_sampCnt (l : List Byte) (s : State) : (storeDatabuf l s).sampCnt = s.sampCnt := rfl
@[simp] theorem storeDatabuf_rdByte (l : List Byte) (s : State) : (storeDatabuf l s).rdByte = s.rdByte := rfl
@[simp] theorem storeDatabuf_lastLen (l : List Byte) (s : State) : (storeDatabuf l s).lastLen = s.lastLen := rfl
@[simp] theorem storeDatabuf_decX (l : List Byte) (s : State) : (storeDatabuf l s).decX = s.decX := rfl
@[simp] theorem storeDatabuf_decY (l : List Byte) (s : State) : (storeDatabuf l s).decY = s.decY := rfl
@[simp] theorem storeDatabuf_decZ (l : List Byte) (s : State) : (storeDatabuf l s).decZ = s.decZ := rfl
@[simp] theorem storeDatabuf_mem (l : List Byte) (s : State) : (storeDatabuf l s).mem = s.mem.writeBytes databufBase l := rfl
@[simp] theorem storeDatabuf_acc (l : List Byte) (s : State) : (storeDatabuf l s).acc = s.acc := rfl
@[simp] theorem storeDatabuf_nlat (l : List Byte) (s : State) : (storeDatabuf l s).nlat = s.nlat := rfl
@[simp] theorem storeDatabuf_dev (l : List Byte) (s : State) : (storeDatabuf l s).dev = s.dev := rfl
@[simp] theorem storeDatabuf_stepIx (l : List Byte) (s : State) : (storeDatabuf l s).stepIx = s.stepIx := rfl
@[simp] theorem storeDatabuf_xcount (l : List Byte) (s : State) : (storeDatabuf l s).xcount = s.xcount := rfl
@[simp] theorem storeDatabuf_phase (l : List Byte) (s : State) : (storeDatabuf l s).phase = s.phase := rfl
@[simp] theorem storeDatabuf_cntHigh (l : List Byte) (s : State) : (storeDatabuf l s).cntHigh = s.cntHigh := rfl
@[simp] theorem storeDatabuf_params (l : List Byte) (s : State) : (storeDatabuf l s).params = s.params := rfl
@[simp] theorem storeDatabuf_sensor (l : List Byte) (s : State) : (storeDatabuf l s).sensor = s.sensor := rfl
@[simp] theorem storeDatabuf_draws (l : List Byte) (s : State) : (storeDatabuf l s).draws = s.draws := rfl
@[simp] theorem storeDatabuf_trace (l : List Byte) (s : State) : (storeDatabuf l s).trace = s.trace := rfl
@[simp] theorem storeDatabuf_host (l : List Byte) (s : State) : (storeDatabuf l s).host = s.host := rfl
@[simp] theorem storeDatabuf_loads (l : List Byte) (s : State) : (storeDatabuf l s).loads = s.loads := rfl
@[simp] theorem storeDatabuf_turns (l : List Byte) (s : State) : (storeDatabuf l s).turns = s.turns := rfl

/-! `storeSample` -/

@[simp] theorem storeSample_cmd (v : Sample) (s : State) : (storeSample v s).cmd = s.cmd := rfl
@[simp] theorem storeSample_busy (v : Sample) (s : State) : (storeSample v s).busy = s.busy := rfl
@[simp] theorem storeSample_done (v : Sample) (s : State) : (storeSample v s).done = s.done := rfl
@[simp] theorem storeSample_initDone (v : Sample) (s : State) : (storeSample v s).initDone = s.initDone := rfl
@[simp] theorem storeSample_sstate (v : Sample) (s : State) : (storeSample v s).sstate = s.sstate := rfl
@[simp] theorem storeSample_cmdRejected (v : Sample) (s : State) : (storeSample v s).cmdRejected = s.cmdRejected := rfl
@[simp] theorem storeSample_errSticky (v : Sample) (s : State) : (storeSample v s).errSticky = s.errSticky := rfl
@[simp] theorem storeSample_cntMisaligned (v : Sample) (s : State) : (storeSample v s).cntMisaligned = s.cntMisaligned := rfl
@[simp] theorem storeSample_fifoDisableFailed (v : Sample) (s : State) : (storeSample v s).fifoDisableFailed = s.fifoDisableFailed := rfl
@[simp] theorem storeSample_lastIntStatus (v : Sample) (s : State) : (storeSample v s).lastIntStatus = s.lastIntStatus := rfl
@[simp] theorem storeSample_errInfo (v : Sample) (s : State) : (storeSample v s).errInfo = s.errInfo := rfl
@[simp] theorem storeSample_busAddr (v : Sample) (s : State) : (storeSample v s).busAddr = s.busAddr := rfl
@[simp] theorem storeSample_rangeG (v : Sample) (s : State) : (storeSample v s).rangeG = s.rangeG := rfl
@[simp] theorem storeSample_targetRate (v : Sample) (s : State) : (storeSample v s).targetRate = s.targetRate := rfl
@[simp] theorem storeSample_nsamp (v : Sample) (s : State) : (storeSample v s).nsamp = s.nsamp := rfl
@[simp] theorem storeSample_divisor (v : Sample) (s : State) : (storeSample v s).divisor = s.divisor := rfl
@[simp] theorem storeSample_fsCode (v : Sample) (s : State) : (storeSample v s).fsCode = s.fsCode := rfl
@[simp] theorem storeSample_range (v : Sample) (s : State) : (storeSample v s).range = s.range := rfl
@[simp] theorem storeSample_fifoCnt (v : Sample) (s : State) : (storeSample v s).fifoCnt = s.fifoCnt := rfl
@[simp] theorem storeSample_sampCnt (v : Sample) (s : State) : (storeSample v s).sampCnt = s.sampCnt + 1 := rfl
@[simp] theorem storeSample_rdByte (v : Sample) (s : State) : (storeSample v s).rdByte = s.rdByte := rfl
@[simp] theorem storeSample_lastLen (v : Sample) (s : State) : (storeSample v s).lastLen = s.lastLen := rfl
@[simp] theorem storeSample_decX (v : Sample) (s : State) : (storeSample v s).decX = s.decX := rfl
@[simp] theorem storeSample_decY (v : Sample) (s : State) : (storeSample v s).decY = s.decY := rfl
@[simp] theorem storeSample_decZ (v : Sample) (s : State) : (storeSample v s).decZ = s.decZ := rfl
@[simp] theorem storeSample_mem (v : Sample) (s : State) : (storeSample v s).mem = s.mem.writeBytes (sampleAddr s.sampCnt.toNat) (sampleBytes v) := rfl
@[simp] theorem storeSample_acc (v : Sample) (s : State) : (storeSample v s).acc = s.acc := rfl
@[simp] theorem storeSample_nlat (v : Sample) (s : State) : (storeSample v s).nlat = s.nlat := rfl
@[simp] theorem storeSample_dev (v : Sample) (s : State) : (storeSample v s).dev = s.dev := rfl
@[simp] theorem storeSample_stepIx (v : Sample) (s : State) : (storeSample v s).stepIx = s.stepIx := rfl
@[simp] theorem storeSample_xcount (v : Sample) (s : State) : (storeSample v s).xcount = s.xcount := rfl
@[simp] theorem storeSample_phase (v : Sample) (s : State) : (storeSample v s).phase = s.phase := rfl
@[simp] theorem storeSample_cntHigh (v : Sample) (s : State) : (storeSample v s).cntHigh = s.cntHigh := rfl
@[simp] theorem storeSample_params (v : Sample) (s : State) : (storeSample v s).params = s.params := rfl
@[simp] theorem storeSample_sensor (v : Sample) (s : State) : (storeSample v s).sensor = s.sensor := rfl
@[simp] theorem storeSample_draws (v : Sample) (s : State) : (storeSample v s).draws = s.draws := rfl
@[simp] theorem storeSample_trace (v : Sample) (s : State) : (storeSample v s).trace = s.trace := rfl
@[simp] theorem storeSample_host (v : Sample) (s : State) : (storeSample v s).host = s.host := rfl
@[simp] theorem storeSample_loads (v : Sample) (s : State) : (storeSample v s).loads = s.loads := rfl
@[simp] theorem storeSample_turns (v : Sample) (s : State) : (storeSample v s).turns = s.turns := rfl

/-! `setCount` -/

@[simp] theorem setCount_cmd (h l : Byte) (s : State) : (setCount h l s).cmd = s.cmd := rfl
@[simp] theorem setCount_busy (h l : Byte) (s : State) : (setCount h l s).busy = s.busy := rfl
@[simp] theorem setCount_done (h l : Byte) (s : State) : (setCount h l s).done = s.done := rfl
@[simp] theorem setCount_initDone (h l : Byte) (s : State) : (setCount h l s).initDone = s.initDone := rfl
@[simp] theorem setCount_sstate (h l : Byte) (s : State) : (setCount h l s).sstate = s.sstate := rfl
@[simp] theorem setCount_cmdRejected (h l : Byte) (s : State) : (setCount h l s).cmdRejected = s.cmdRejected := rfl
@[simp] theorem setCount_errSticky (h l : Byte) (s : State) : (setCount h l s).errSticky = s.errSticky := rfl
@[simp] theorem setCount_cntMisaligned (h l : Byte) (s : State) : (setCount h l s).cntMisaligned = (s.cntMisaligned || misaligned (combineCount h l)) := rfl
@[simp] theorem setCount_fifoDisableFailed (h l : Byte) (s : State) : (setCount h l s).fifoDisableFailed = s.fifoDisableFailed := rfl
@[simp] theorem setCount_lastIntStatus (h l : Byte) (s : State) : (setCount h l s).lastIntStatus = s.lastIntStatus := rfl
@[simp] theorem setCount_errInfo (h l : Byte) (s : State) : (setCount h l s).errInfo = s.errInfo := rfl
@[simp] theorem setCount_busAddr (h l : Byte) (s : State) : (setCount h l s).busAddr = s.busAddr := rfl
@[simp] theorem setCount_rangeG (h l : Byte) (s : State) : (setCount h l s).rangeG = s.rangeG := rfl
@[simp] theorem setCount_targetRate (h l : Byte) (s : State) : (setCount h l s).targetRate = s.targetRate := rfl
@[simp] theorem setCount_nsamp (h l : Byte) (s : State) : (setCount h l s).nsamp = s.nsamp := rfl
@[simp] theorem setCount_divisor (h l : Byte) (s : State) : (setCount h l s).divisor = s.divisor := rfl
@[simp] theorem setCount_fsCode (h l : Byte) (s : State) : (setCount h l s).fsCode = s.fsCode := rfl
@[simp] theorem setCount_range (h l : Byte) (s : State) : (setCount h l s).range = s.range := rfl
@[simp] theorem setCount_fifoCnt (h l : Byte) (s : State) : (setCount h l s).fifoCnt = combineCount h l := rfl
@[simp] theorem setCount_sampCnt (h l : Byte) (s : State) : (setCount h l s).sampCnt = s.sampCnt := rfl
@[simp] theorem setCount_rdByte (h l : Byte) (s : State) : (setCount h l s).rdByte = s.rdByte := rfl
@[simp] theorem setCount_lastLen (h l : Byte) (s : State) : (setCount h l s).lastLen = s.lastLen := rfl
@[simp] theorem setCount_decX (h l : Byte) (s : State) : (setCount h l s).decX = s.decX := rfl
@[simp] theorem setCount_decY (h l : Byte) (s : State) : (setCount h l s).decY = s.decY := rfl
@[simp] theorem setCount_decZ (h l : Byte) (s : State) : (setCount h l s).decZ = s.decZ := rfl
@[simp] theorem setCount_mem (h l : Byte) (s : State) : (setCount h l s).mem = s.mem := rfl
@[simp] theorem setCount_acc (h l : Byte) (s : State) : (setCount h l s).acc = s.acc := rfl
@[simp] theorem setCount_nlat (h l : Byte) (s : State) : (setCount h l s).nlat = s.nlat := rfl
@[simp] theorem setCount_dev (h l : Byte) (s : State) : (setCount h l s).dev = s.dev := rfl
@[simp] theorem setCount_stepIx (h l : Byte) (s : State) : (setCount h l s).stepIx = s.stepIx := rfl
@[simp] theorem setCount_xcount (h l : Byte) (s : State) : (setCount h l s).xcount = s.xcount := rfl
@[simp] theorem setCount_phase (h l : Byte) (s : State) : (setCount h l s).phase = s.phase := rfl
@[simp] theorem setCount_cntHigh (h l : Byte) (s : State) : (setCount h l s).cntHigh = s.cntHigh := rfl
@[simp] theorem setCount_params (h l : Byte) (s : State) : (setCount h l s).params = s.params := rfl
@[simp] theorem setCount_sensor (h l : Byte) (s : State) : (setCount h l s).sensor = s.sensor := rfl
@[simp] theorem setCount_draws (h l : Byte) (s : State) : (setCount h l s).draws = s.draws := rfl
@[simp] theorem setCount_trace (h l : Byte) (s : State) : (setCount h l s).trace = s.trace := rfl
@[simp] theorem setCount_host (h l : Byte) (s : State) : (setCount h l s).host = s.host := rfl
@[simp] theorem setCount_loads (h l : Byte) (s : State) : (setCount h l s).loads = s.loads := rfl
@[simp] theorem setCount_turns (h l : Byte) (s : State) : (setCount h l s).turns = s.turns := rfl

/-! `startCycle` -/

@[simp] theorem startCycle_cmd (s : State) : (startCycle s).cmd = s.cmd := rfl
@[simp] theorem startCycle_busy (s : State) : (startCycle s).busy = s.busy := rfl
@[simp] theorem startCycle_done (s : State) : (startCycle s).done = s.done := rfl
@[simp] theorem startCycle_initDone (s : State) : (startCycle s).initDone = s.initDone := rfl
@[simp] theorem startCycle_sstate (s : State) : (startCycle s).sstate = .fifoArmed := rfl
@[simp] theorem startCycle_cmdRejected (s : State) : (startCycle s).cmdRejected = s.cmdRejected := rfl
@[simp] theorem startCycle_errSticky (s : State) : (startCycle s).errSticky = s.errSticky := rfl
@[simp] theorem startCycle_cntMisaligned (s : State) : (startCycle s).cntMisaligned = s.cntMisaligned := rfl
@[simp] theorem startCycle_fifoDisableFailed (s : State) : (startCycle s).fifoDisableFailed = s.fifoDisableFailed := rfl
@[simp] theorem startCycle_lastIntStatus (s : State) : (startCycle s).lastIntStatus = s.lastIntStatus := rfl
@[simp] theorem startCycle_errInfo (s : State) : (startCycle s).errInfo = s.errInfo := rfl
@[simp] theorem startCycle_busAddr (s : State) : (startCycle s).busAddr = s.busAddr := rfl
@[simp] theorem startCycle_rangeG (s : State) : (startCycle s).rangeG = s.rangeG := rfl
@[simp] theorem startCycle_targetRate (s : State) : (startCycle s).targetRate = s.targetRate := rfl
@[simp] theorem startCycle_nsamp (s : State) : (startCycle s).nsamp = s.nsamp := rfl
@[simp] theorem startCycle_divisor (s : State) : (startCycle s).divisor = s.divisor := rfl
@[simp] theorem startCycle_fsCode (s : State) : (startCycle s).fsCode = s.fsCode := rfl
@[simp] theorem startCycle_range (s : State) : (startCycle s).range = s.range := rfl
@[simp] theorem startCycle_fifoCnt (s : State) : (startCycle s).fifoCnt = 0 := rfl
@[simp] theorem startCycle_sampCnt (s : State) : (startCycle s).sampCnt = 0 := rfl
@[simp] theorem startCycle_rdByte (s : State) : (startCycle s).rdByte = s.rdByte := rfl
@[simp] theorem startCycle_lastLen (s : State) : (startCycle s).lastLen = s.lastLen := rfl
@[simp] theorem startCycle_decX (s : State) : (startCycle s).decX = s.decX := rfl
@[simp] theorem startCycle_decY (s : State) : (startCycle s).decY = s.decY := rfl
@[simp] theorem startCycle_decZ (s : State) : (startCycle s).decZ = s.decZ := rfl
@[simp] theorem startCycle_mem (s : State) : (startCycle s).mem = s.mem := rfl
@[simp] theorem startCycle_acc (s : State) : (startCycle s).acc = [] := rfl
@[simp] theorem startCycle_nlat (s : State) : (startCycle s).nlat = s.nsamp := rfl
@[simp] theorem startCycle_dev (s : State) : (startCycle s).dev = s.dev := rfl
@[simp] theorem startCycle_stepIx (s : State) : (startCycle s).stepIx = s.stepIx := rfl
@[simp] theorem startCycle_xcount (s : State) : (startCycle s).xcount = s.xcount := rfl
@[simp] theorem startCycle_phase (s : State) : (startCycle s).phase = .arm0 := rfl
@[simp] theorem startCycle_cntHigh (s : State) : (startCycle s).cntHigh = s.cntHigh := rfl
@[simp] theorem startCycle_params (s : State) : (startCycle s).params = s.params := rfl
@[simp] theorem startCycle_sensor (s : State) : (startCycle s).sensor = s.sensor := rfl
@[simp] theorem startCycle_draws (s : State) : (startCycle s).draws = s.draws := rfl
@[simp] theorem startCycle_trace (s : State) : (startCycle s).trace = s.trace := rfl
@[simp] theorem startCycle_host (s : State) : (startCycle s).host = s.host := rfl
@[simp] theorem startCycle_loads (s : State) : (startCycle s).loads = s.loads := rfl
@[simp] theorem startCycle_turns (s : State) : (startCycle s).turns = s.turns := rfl

/-! `acceptCommand` -/

@[simp] theorem acceptCommand_cmd (w : Word) (s : State) : (acceptCommand w s).cmd = w := rfl
@[simp] theorem acceptCommand_busy (w : Word) (s : State) : (acceptCommand w s).busy = true := rfl
@[simp] theorem acceptCommand_done (w : Word) (s : State) : (acceptCommand w s).done = false := rfl
@[simp] theorem acceptCommand_initDone (w : Word) (s : State) : (acceptCommand w s).initDone = s.initDone := rfl
@[simp] theorem acceptCommand_sstate (w : Word) (s : State) : (acceptCommand w s).sstate = s.sstate := rfl
@[simp] theorem acceptCommand_cmdRejected (w : Word) (s : State) : (acceptCommand w s).cmdRejected = s.cmdRejected := rfl
@[simp] theorem acceptCommand_errSticky (w : Word) (s : State) : (acceptCommand w s).errSticky = s.errSticky := rfl
@[simp] theorem acceptCommand_cntMisaligned (w : Word) (s : State) : (acceptCommand w s).cntMisaligned = s.cntMisaligned := rfl
@[simp] theorem acceptCommand_fifoDisableFailed (w : Word) (s : State) : (acceptCommand w s).fifoDisableFailed = s.fifoDisableFailed := rfl
@[simp] theorem acceptCommand_lastIntStatus (w : Word) (s : State) : (acceptCommand w s).lastIntStatus = s.lastIntStatus := rfl
@[simp] theorem acceptCommand_errInfo (w : Word) (s : State) : (acceptCommand w s).errInfo = .zero := rfl
@[simp] theorem acceptCommand_busAddr (w : Word) (s : State) : (acceptCommand w s).busAddr = s.busAddr := rfl
@[simp] theorem acceptCommand_rangeG (w : Word) (s : State) : (acceptCommand w s).rangeG = s.rangeG := rfl
@[simp] theorem acceptCommand_targetRate (w : Word) (s : State) : (acceptCommand w s).targetRate = s.targetRate := rfl
@[simp] theorem acceptCommand_nsamp (w : Word) (s : State) : (acceptCommand w s).nsamp = s.nsamp := rfl
@[simp] theorem acceptCommand_divisor (w : Word) (s : State) : (acceptCommand w s).divisor = s.divisor := rfl
@[simp] theorem acceptCommand_fsCode (w : Word) (s : State) : (acceptCommand w s).fsCode = s.fsCode := rfl
@[simp] theorem acceptCommand_range (w : Word) (s : State) : (acceptCommand w s).range = s.range := rfl
@[simp] theorem acceptCommand_fifoCnt (w : Word) (s : State) : (acceptCommand w s).fifoCnt = s.fifoCnt := rfl
@[simp] theorem acceptCommand_sampCnt (w : Word) (s : State) : (acceptCommand w s).sampCnt = s.sampCnt := rfl
@[simp] theorem acceptCommand_rdByte (w : Word) (s : State) : (acceptCommand w s).rdByte = s.rdByte := rfl
@[simp] theorem acceptCommand_lastLen (w : Word) (s : State) : (acceptCommand w s).lastLen = s.lastLen := rfl
@[simp] theorem acceptCommand_decX (w : Word) (s : State) : (acceptCommand w s).decX = s.decX := rfl
@[simp] theorem acceptCommand_decY (w : Word) (s : State) : (acceptCommand w s).decY = s.decY := rfl
@[simp] theorem acceptCommand_decZ (w : Word) (s : State) : (acceptCommand w s).decZ = s.decZ := rfl
@[simp] theorem acceptCommand_mem (w : Word) (s : State) : (acceptCommand w s).mem = s.mem := rfl
@[simp] theorem acceptCommand_acc (w : Word) (s : State) : (acceptCommand w s).acc = s.acc := rfl
@[simp] theorem acceptCommand_nlat (w : Word) (s : State) : (acceptCommand w s).nlat = s.nlat := rfl
@[simp] theorem acceptCommand_dev (w : Word) (s : State) : (acceptCommand w s).dev = s.busAddr := rfl
@[simp] theorem acceptCommand_stepIx (w : Word) (s : State) : (acceptCommand w s).stepIx = 0 := rfl
@[simp] theorem acceptCommand_xcount (w : Word) (s : State) : (acceptCommand w s).xcount = 0 := rfl
@[simp] theorem acceptCommand_phase (w : Word) (s : State) : (acceptCommand w s).phase = startPhase w := rfl
@[simp] theorem acceptCommand_cntHigh (w : Word) (s : State) : (acceptCommand w s).cntHigh = s.cntHigh := rfl
@[simp] theorem acceptCommand_params (w : Word) (s : State) : (acceptCommand w s).params = s.params := rfl
@[simp] theorem acceptCommand_sensor (w : Word) (s : State) : (acceptCommand w s).sensor = s.sensor := rfl
@[simp] theorem acceptCommand_draws (w : Word) (s : State) : (acceptCommand w s).draws = s.draws := rfl
@[simp] theorem acceptCommand_trace (w : Word) (s : State) : (acceptCommand w s).trace = s.trace := rfl
@[simp] theorem acceptCommand_host (w : Word) (s : State) : (acceptCommand w s).host = s.host := rfl
@[simp] theorem acceptCommand_loads (w : Word) (s : State) : (acceptCommand w s).loads = s.loads := rfl
@[simp] theorem acceptCommand_turns (w : Word) (s : State) : (acceptCommand w s).turns = s.turns := rfl

/-! `clearSticky` -/

@[simp] theorem clearSticky_cmd (w : Word) (s : State) : (clearSticky w s).cmd = s.cmd := rfl
@[simp] theorem clearSticky_busy (w : Word) (s : State) : (clearSticky w s).busy = s.busy := rfl
@[simp] theorem clearSticky_done (w : Word) (s : State) : (clearSticky w s).done = s.done := rfl
@[simp] theorem clearSticky_initDone (w : Word) (s : State) : (clearSticky w s).initDone = s.initDone := rfl
@[simp] theorem clearSticky_sstate (w : Word) (s : State) : (clearSticky w s).sstate = s.sstate := rfl
@[simp] theorem clearSticky_cmdRejected (w : Word) (s : State) : (clearSticky w s).cmdRejected = (s.cmdRejected && !w.getLsbD 8) := rfl
@[simp] theorem clearSticky_errSticky (w : Word) (s : State) : (clearSticky w s).errSticky = (s.errSticky && !w.getLsbD 9) := rfl
@[simp] theorem clearSticky_cntMisaligned (w : Word) (s : State) : (clearSticky w s).cntMisaligned = (s.cntMisaligned && !w.getLsbD 10) := rfl
@[simp] theorem clearSticky_fifoDisableFailed (w : Word) (s : State) : (clearSticky w s).fifoDisableFailed = (s.fifoDisableFailed && !w.getLsbD 11) := rfl
@[simp] theorem clearSticky_lastIntStatus (w : Word) (s : State) : (clearSticky w s).lastIntStatus = s.lastIntStatus := rfl
@[simp] theorem clearSticky_errInfo (w : Word) (s : State) : (clearSticky w s).errInfo = s.errInfo := rfl
@[simp] theorem clearSticky_busAddr (w : Word) (s : State) : (clearSticky w s).busAddr = s.busAddr := rfl
@[simp] theorem clearSticky_rangeG (w : Word) (s : State) : (clearSticky w s).rangeG = s.rangeG := rfl
@[simp] theorem clearSticky_targetRate (w : Word) (s : State) : (clearSticky w s).targetRate = s.targetRate := rfl
@[simp] theorem clearSticky_nsamp (w : Word) (s : State) : (clearSticky w s).nsamp = s.nsamp := rfl
@[simp] theorem clearSticky_divisor (w : Word) (s : State) : (clearSticky w s).divisor = s.divisor := rfl
@[simp] theorem clearSticky_fsCode (w : Word) (s : State) : (clearSticky w s).fsCode = s.fsCode := rfl
@[simp] theorem clearSticky_range (w : Word) (s : State) : (clearSticky w s).range = s.range := rfl
@[simp] theorem clearSticky_fifoCnt (w : Word) (s : State) : (clearSticky w s).fifoCnt = s.fifoCnt := rfl
@[simp] theorem clearSticky_sampCnt (w : Word) (s : State) : (clearSticky w s).sampCnt = s.sampCnt := rfl
@[simp] theorem clearSticky_rdByte (w : Word) (s : State) : (clearSticky w s).rdByte = s.rdByte := rfl
@[simp] theorem clearSticky_lastLen (w : Word) (s : State) : (clearSticky w s).lastLen = s.lastLen := rfl
@[simp] theorem clearSticky_decX (w : Word) (s : State) : (clearSticky w s).decX = s.decX := rfl
@[simp] theorem clearSticky_decY (w : Word) (s : State) : (clearSticky w s).decY = s.decY := rfl
@[simp] theorem clearSticky_decZ (w : Word) (s : State) : (clearSticky w s).decZ = s.decZ := rfl
@[simp] theorem clearSticky_mem (w : Word) (s : State) : (clearSticky w s).mem = s.mem := rfl
@[simp] theorem clearSticky_acc (w : Word) (s : State) : (clearSticky w s).acc = s.acc := rfl
@[simp] theorem clearSticky_nlat (w : Word) (s : State) : (clearSticky w s).nlat = s.nlat := rfl
@[simp] theorem clearSticky_dev (w : Word) (s : State) : (clearSticky w s).dev = s.dev := rfl
@[simp] theorem clearSticky_stepIx (w : Word) (s : State) : (clearSticky w s).stepIx = s.stepIx := rfl
@[simp] theorem clearSticky_xcount (w : Word) (s : State) : (clearSticky w s).xcount = s.xcount := rfl
@[simp] theorem clearSticky_phase (w : Word) (s : State) : (clearSticky w s).phase = s.phase := rfl
@[simp] theorem clearSticky_cntHigh (w : Word) (s : State) : (clearSticky w s).cntHigh = s.cntHigh := rfl
@[simp] theorem clearSticky_params (w : Word) (s : State) : (clearSticky w s).params = s.params := rfl
@[simp] theorem clearSticky_sensor (w : Word) (s : State) : (clearSticky w s).sensor = s.sensor := rfl
@[simp] theorem clearSticky_draws (w : Word) (s : State) : (clearSticky w s).draws = s.draws := rfl
@[simp] theorem clearSticky_trace (w : Word) (s : State) : (clearSticky w s).trace = s.trace := rfl
@[simp] theorem clearSticky_host (w : Word) (s : State) : (clearSticky w s).host = s.host := rfl
@[simp] theorem clearSticky_loads (w : Word) (s : State) : (clearSticky w s).loads = s.loads := rfl
@[simp] theorem clearSticky_turns (w : Word) (s : State) : (clearSticky w s).turns = s.turns := rfl

/-! `blockReset` (70_reset_and_hazards.md R241) -/

@[simp] theorem blockReset_cmd (s : State) : (blockReset s).cmd = State.reset.cmd := rfl
@[simp] theorem blockReset_busy (s : State) : (blockReset s).busy = State.reset.busy := rfl
@[simp] theorem blockReset_done (s : State) : (blockReset s).done = State.reset.done := rfl
@[simp] theorem blockReset_initDone (s : State) : (blockReset s).initDone = State.reset.initDone := rfl
@[simp] theorem blockReset_sstate (s : State) : (blockReset s).sstate = State.reset.sstate := rfl
@[simp] theorem blockReset_cmdRejected (s : State) : (blockReset s).cmdRejected = State.reset.cmdRejected := rfl
@[simp] theorem blockReset_errSticky (s : State) : (blockReset s).errSticky = State.reset.errSticky := rfl
@[simp] theorem blockReset_cntMisaligned (s : State) : (blockReset s).cntMisaligned = State.reset.cntMisaligned := rfl
@[simp] theorem blockReset_fifoDisableFailed (s : State) : (blockReset s).fifoDisableFailed = State.reset.fifoDisableFailed := rfl
@[simp] theorem blockReset_lastIntStatus (s : State) : (blockReset s).lastIntStatus = State.reset.lastIntStatus := rfl
@[simp] theorem blockReset_errInfo (s : State) : (blockReset s).errInfo = State.reset.errInfo := rfl
@[simp] theorem blockReset_busAddr (s : State) : (blockReset s).busAddr = State.reset.busAddr := rfl
@[simp] theorem blockReset_rangeG (s : State) : (blockReset s).rangeG = State.reset.rangeG := rfl
@[simp] theorem blockReset_targetRate (s : State) : (blockReset s).targetRate = State.reset.targetRate := rfl
@[simp] theorem blockReset_nsamp (s : State) : (blockReset s).nsamp = State.reset.nsamp := rfl
@[simp] theorem blockReset_divisor (s : State) : (blockReset s).divisor = State.reset.divisor := rfl
@[simp] theorem blockReset_fsCode (s : State) : (blockReset s).fsCode = State.reset.fsCode := rfl
@[simp] theorem blockReset_range (s : State) : (blockReset s).range = State.reset.range := rfl
@[simp] theorem blockReset_fifoCnt (s : State) : (blockReset s).fifoCnt = State.reset.fifoCnt := rfl
@[simp] theorem blockReset_sampCnt (s : State) : (blockReset s).sampCnt = State.reset.sampCnt := rfl
@[simp] theorem blockReset_rdByte (s : State) : (blockReset s).rdByte = State.reset.rdByte := rfl
@[simp] theorem blockReset_lastLen (s : State) : (blockReset s).lastLen = State.reset.lastLen := rfl
@[simp] theorem blockReset_decX (s : State) : (blockReset s).decX = State.reset.decX := rfl
@[simp] theorem blockReset_decY (s : State) : (blockReset s).decY = State.reset.decY := rfl
@[simp] theorem blockReset_decZ (s : State) : (blockReset s).decZ = State.reset.decZ := rfl
@[simp] theorem blockReset_mem (s : State) : (blockReset s).mem = State.reset.mem := rfl
@[simp] theorem blockReset_acc (s : State) : (blockReset s).acc = State.reset.acc := rfl
@[simp] theorem blockReset_nlat (s : State) : (blockReset s).nlat = State.reset.nlat := rfl
@[simp] theorem blockReset_dev (s : State) : (blockReset s).dev = State.reset.dev := rfl
@[simp] theorem blockReset_stepIx (s : State) : (blockReset s).stepIx = State.reset.stepIx := rfl
@[simp] theorem blockReset_xcount (s : State) : (blockReset s).xcount = State.reset.xcount := rfl
@[simp] theorem blockReset_phase (s : State) : (blockReset s).phase = State.reset.phase := rfl
@[simp] theorem blockReset_cntHigh (s : State) : (blockReset s).cntHigh = State.reset.cntHigh := rfl
@[simp] theorem blockReset_params (s : State) : (blockReset s).params = s.params := rfl
@[simp] theorem blockReset_sensor (s : State) : (blockReset s).sensor = s.sensor := rfl
@[simp] theorem blockReset_draws (s : State) : (blockReset s).draws = s.draws := rfl
@[simp] theorem blockReset_trace (s : State) : (blockReset s).trace = s.trace := rfl
@[simp] theorem blockReset_host (s : State) : (blockReset s).host = s.host := rfl
@[simp] theorem blockReset_loads (s : State) : (blockReset s).loads = s.loads := rfl
@[simp] theorem blockReset_turns (s : State) : (blockReset s).turns = s.turns := rfl

end Sys2Proof.Machine
end

