-- ==== Sys2Proof/Laws/Bus.lean ====
section
/-! SUPPORT. The bus primitives: what each can answer, how long a block is, and what `xfer` does with the answer. -/

namespace Sys2Proof.Machine

open Sys2Proof.Config

/-- Without short reads a block read delivers exactly what was asked (00_scope.md R14). -/
theorem fitExact_length (d i n : Nat) (l : List Byte) : (fitExact d i n l).length = n := by
  induction n generalizing i l with
  | zero => simp [fitExact]
  | succ n ih => cases l <;> simp [fitExact, ih]

/-- An answer that lists exactly the bytes asked for is delivered as it is. -/
theorem fitExact_self (d i : Nat) (l : List Byte) : fitExact d i l.length l = l := by
  induction l generalizing i with
  | nil => rfl
  | cons b l ih => simp [fitExact, ih]

/-- A block read never delivers more than was asked (00_scope.md R14). -/
theorem fitBlock_length_le (short : Bool) (d n : Nat) (l : List Byte) : (fitBlock short d n l).length ≤ n := by
  unfold fitBlock
  split
  · cases l <;> simp
  · simp [fitExact_length]

/-- A block read of at least one byte delivers at least one (00_scope.md R14). -/
theorem fitBlock_length_pos (short : Bool) (d n : Nat) (l : List Byte) (hn : 0 < n) :
    0 < (fitBlock short d n l).length := by
  unfold fitBlock
  split
  · cases l <;> simp [List.length_take] <;> omega
  · simpa [fitExact_length]

/-- `P_SHORT_READ = false`: exactly `n` bytes. -/
theorem fitBlock_length_of_exact (d n : Nat) (l : List Byte) : (fitBlock false d n l).length = n := by
  simp [fitBlock, fitExact_length]

/-- A block answer of the length asked for is delivered unchanged, with or without short reads. -/
theorem fitBlock_self (short : Bool) (d : Nat) (l : List Byte) : fitBlock short d l.length l = l := by
  unfold fitBlock
  split
  · cases l <;> simp
  · exact fitExact_self d 0 l

/-- Everything a draw can do: the head of the list, or a free answer after it. -/
theorem draw_cases (s : State) :
    (∃ a rest, s.sensor = a :: rest ∧ draw s = (a, { s with sensor := rest, draws := s.draws + 1 })) ∨
      (s.sensor = [] ∧ draw s = (freeAnswer s.draws, { s with draws := s.draws + 1 })) := by
  unfold draw
  cases h : s.sensor with
  | nil => exact .inr ⟨rfl, rfl⟩
  | cons a rest => exact .inl ⟨a, rest, rfl, rfl⟩

/-- A draw changes the sensor agent only. -/
theorem draw_state (s : State) : ∃ rest, (draw s).2 = { s with sensor := rest, draws := s.draws + 1 } := by
  rcases draw_cases s with ⟨a, rest, -, h⟩ | ⟨h0, h⟩
  · exact ⟨rest, by rw [h]⟩
  · exact ⟨[], by rw [h, ← h0]⟩

/-- The state after a transaction: the sensor agent has moved on and the trace is one longer. -/
def afterTransaction (req : BusReq) (ans : SensorAnswer) (rest : List SensorAnswer) (s : State) : State :=
  { s with sensor := rest, draws := s.draws + 1, trace := ⟨req, ans⟩ :: s.trace }

/-- Everything BusWrite can do. -/
theorem busWrite_cases (reg v : Byte) (s : State) :
    ∃ rest, busWrite reg v s = (.ok (), afterTransaction (.write s.dev reg v) (.ok []) rest s) ∨
      ∃ c, busWrite reg v s = (.error c, afterTransaction (.write s.dev reg v) (.err c) rest s) := by
  obtain ⟨rest, h⟩ := draw_state s
  refine ⟨rest, ?_⟩
  unfold busWrite
  cases hd : draw s with
  | mk a s1 =>
    rw [hd] at h
    obtain rfl : s1 = _ := h
    cases a with
    | ok l => exact .inl (rfl)
    | err c => exact .inr ⟨c, rfl⟩

/-- Everything BusRead can do. -/
theorem busRead_cases (reg : Byte) (s : State) :
    ∃ rest, (∃ b, busRead reg s = (.ok b, afterTransaction (.read s.dev reg) (.ok [b]) rest s)) ∨
      ∃ c, busRead reg s = (.error c, afterTransaction (.read s.dev reg) (.err c) rest s) := by
  obtain ⟨rest, h⟩ := draw_state s
  refine ⟨rest, ?_⟩
  unfold busRead
  cases hd : draw s with
  | mk a s1 =>
    rw [hd] at h
    obtain rfl : s1 = _ := h
    cases a with
    | ok l => exact .inl ⟨fitByte s.draws l, rfl⟩
    | err c => exact .inr ⟨c, rfl⟩

/-- Everything BusReadBlock can do; the length bounds are 00_scope.md R14's. -/
theorem busReadBlock_cases (reg : Byte) (n : Nat) (s : State) :
    ∃ rest, (∃ l, busReadBlock reg n s = (.ok l, afterTransaction (.readBlock s.dev reg n) (.ok l) rest s) ∧
        l.length ≤ n ∧ (0 < n → 0 < l.length) ∧ (s.params.P_SHORT_READ = false → l.length = n)) ∨
      ∃ c, busReadBlock reg n s = (.error c, afterTransaction (.readBlock s.dev reg n) (.err c) rest s) := by
  obtain ⟨rest, h⟩ := draw_state s
  refine ⟨rest, ?_⟩
  unfold busReadBlock
  cases hd : draw s with
  | mk a s1 =>
    rw [hd] at h
    obtain rfl : s1 = _ := h
    cases a with
    | ok l =>
      refine .inl ⟨fitBlock s.params.P_SHORT_READ s.draws n l, rfl,
        fitBlock_length_le _ _ _ _, fitBlock_length_pos _ _ _ _, fun hs => ?_⟩
      rw [hs]
      exact fitBlock_length_of_exact _ _ _
    | err c => exact .inr ⟨c, rfl⟩

/-- `xfer` on an answer Ok: one transaction more, then the continuation (40_bus_primitive.md R111). -/
theorem xfer_of_ok {α : Type} {t : State → Except Half α × State} {k : α → State → State} {s s1 : State} {v : α}
    (h : t s = (.ok v, s1)) : xfer t k s = k v { s1 with xcount := s1.xcount + 1 } := by
  simp [xfer, h]

/-- `xfer` on an answer Err: BusError with the primitive's code (40_bus_primitive.md R111). -/
theorem xfer_of_error {α : Type} {t : State → Except Half α × State} {k : α → State → State} {s s1 : State} {c : Half}
    (h : t s = (.error c, s1)) : xfer t k s = busError c s1 := by
  simp [xfer, h]

/-- Everything `xfer` of a write can do: the continuation after an Ok, BusError after an Err. -/
theorem xfer_busWrite_cases (reg v : Byte) (k : Unit → State → State) (s : State) :
    ∃ rest,
      xfer (busWrite reg v) k s =
          k () { afterTransaction (.write s.dev reg v) (.ok []) rest s with xcount := s.xcount + 1 } ∨
        ∃ c, xfer (busWrite reg v) k s = busError c (afterTransaction (.write s.dev reg v) (.err c) rest s) := by
  obtain ⟨rest, h⟩ := busWrite_cases reg v s
  exact ⟨rest, h.imp (fun h => xfer_of_ok h) fun ⟨c, h⟩ => ⟨c, xfer_of_error h⟩⟩

/-- Everything `xfer` of a single read can do. -/
theorem xfer_busRead_cases (reg : Byte) (k : Byte → State → State) (s : State) :
    ∃ rest,
      (∃ b, xfer (busRead reg) k s =
          k b { afterTransaction (.read s.dev reg) (.ok [b]) rest s with xcount := s.xcount + 1 }) ∨
        ∃ c, xfer (busRead reg) k s = busError c (afterTransaction (.read s.dev reg) (.err c) rest s) := by
  obtain ⟨rest, h⟩ := busRead_cases reg s
  exact ⟨rest, h.imp (fun ⟨b, h⟩ => ⟨b, xfer_of_ok h⟩) fun ⟨c, h⟩ => ⟨c, xfer_of_error h⟩⟩

/-- Everything `xfer` of a block read can do, with the length bounds of 00_scope.md R14. -/
theorem xfer_busReadBlock_cases (reg : Byte) (n : Nat) (k : List Byte → State → State) (s : State) :
    ∃ rest,
      (∃ l, xfer (busReadBlock reg n) k s =
            k l { afterTransaction (.readBlock s.dev reg n) (.ok l) rest s with xcount := s.xcount + 1 } ∧
          l.length ≤ n ∧ (0 < n → 0 < l.length) ∧ (s.params.P_SHORT_READ = false → l.length = n)) ∨
        ∃ c, xfer (busReadBlock reg n) k s =
          busError c (afterTransaction (.readBlock s.dev reg n) (.err c) rest s) := by
  obtain ⟨rest, h⟩ := busReadBlock_cases reg n s
  exact ⟨rest, h.imp (fun ⟨l, h, hl⟩ => ⟨l, xfer_of_ok h, hl⟩) fun ⟨c, h⟩ => ⟨c, xfer_of_error h⟩⟩

end Sys2Proof.Machine
end

