-- ==== Sys2Proof/Laws/Control.lean ====
section
/-! SUPPORT. Errors and steps: what `raise` does, what one step of an ordinary command is, and that every command's step
answers a next state. -/

namespace Sys2Proof.Machine

open Sys2Proof.Config

/-- Outside a cycle `raise` writes ERRINFO and ERR_STICKY and nothing else (60_exceptions.md R213, R217). -/
theorem raise_of_outside {kind : ErrKind} {sub : BitVec 4} {stp : Byte} {code : Half} {s : State}
    (h : s.phase.inCycle = false) :
    raise kind sub stp code s = { s with errInfo := ⟨kind, sub, stp, code⟩, errSticky := true } := by
  simp [raise, h]

/-- In a cycle, before the completion write, `raise` goes on to the abort's write (60_exceptions.md R213, R215). -/
theorem raise_of_inCycle {kind : ErrKind} {sub : BitVec 4} {stp : Byte} {code : Half} {s : State}
    (h : s.phase.inCycle = true) (hf : s.phase ≠ .finish) :
    raise kind sub stp code s =
      { s with errInfo := ⟨kind, sub, stp, code⟩, errSticky := true, phase := .abort } := by
  simp only [raise, h, if_true]
  unfold enterAbort
  split
  · next h' => exact absurd h' hf
  · rfl

/-- At the completion write `raise` ends the cycle at once, without a second disable write (60_exceptions.md R215). -/
theorem raise_of_finish {kind : ErrKind} {sub : BitVec 4} {stp : Byte} {code : Half} {s : State}
    (h : s.phase = .finish) :
    raise kind sub stp code s =
      { s with errInfo := ⟨kind, sub, stp, code⟩, errSticky := true, sstate := .idle, phase := .idleEnd } := by
  simp [raise, h, Phase.inCycle, enterAbort]

/-- Everything `raise` can do (60_exceptions.md R213, R215, R217). -/
theorem raise_cases (kind : ErrKind) (sub : BitVec 4) (stp : Byte) (code : Half) (s : State) :
    (s.phase.inCycle = false ∧
        raise kind sub stp code s = { s with errInfo := ⟨kind, sub, stp, code⟩, errSticky := true }) ∨
      (s.phase.inCycle = true ∧ s.phase ≠ .finish ∧
        raise kind sub stp code s =
          { s with errInfo := ⟨kind, sub, stp, code⟩, errSticky := true, phase := .abort }) ∨
      (s.phase = .finish ∧
        raise kind sub stp code s =
          { s with errInfo := ⟨kind, sub, stp, code⟩, errSticky := true, sstate := .idle, phase := .idleEnd }) := by
  by_cases h : s.phase.inCycle = true
  · by_cases hf : s.phase = .finish
    · exact .inr (.inr ⟨hf, raise_of_finish hf⟩)
    · exact .inr (.inl ⟨h, hf, raise_of_inCycle h hf⟩)
  · have h' : s.phase.inCycle = false := by simpa using h
    exact .inl ⟨h', raise_of_outside h'⟩

@[simp] theorem raise_errInfo (kind : ErrKind) (sub : BitVec 4) (stp : Byte) (code : Half) (s : State) :
    (raise kind sub stp code s).errInfo = ⟨kind, sub, stp, code⟩ := by
  rcases raise_cases kind sub stp code s with ⟨-, h⟩ | ⟨-, -, h⟩ | ⟨-, h⟩ <;> rw [h]

@[simp] theorem raise_errSticky (kind : ErrKind) (sub : BitVec 4) (stp : Byte) (code : Half) (s : State) :
    (raise kind sub stp code s).errSticky = true := by
  rcases raise_cases kind sub stp code s with ⟨-, h⟩ | ⟨-, -, h⟩ | ⟨-, h⟩ <;> rw [h]

/-- With no ACQUIRE phase, BusError writes ERRINFO and ERR_STICKY and nothing else (40_bus_primitive.md R111,
60_exceptions.md R217). -/
theorem busError_of_outside {c : Half} {s : State} (h : s.phase.inCycle = false) :
    busError c s =
      { s with errInfo := ⟨.bus, 0, BitVec.ofNat 8 (min s.xcount 255), c⟩, errSticky := true } :=
  raise_of_outside h

/-- Outside a cycle a failing first check is the error and its completion in one step (43_control.md R202). -/
theorem failAtOnce_of_outside {kind : ErrKind} {sub : BitVec 4} {s : State} (h : s.phase.inCycle = false) :
    failAtOnce kind sub s =
      { s with
        errInfo := ⟨kind, sub, 0, 0⟩, errSticky := true, busy := false, done := true, phase := .none } := by
  simp [failAtOnce, raise_of_outside h, errorComplete]

/-- `raise` touches ERRINFO, ERR_STICKY, SSTATE and the phase only. -/
theorem raise_touches (kind : ErrKind) (sub : BitVec 4) (stp : Byte) (code : Half) (s : State) :
    raise kind sub stp code s =
      { s with
        errInfo := ⟨kind, sub, stp, code⟩, errSticky := true,
        sstate := (raise kind sub stp code s).sstate, phase := (raise kind sub stp code s).phase } := by
  rcases raise_cases kind sub stp code s with ⟨-, h⟩ | ⟨-, -, h⟩ | ⟨-, h⟩ <;> rw [h]

/-- One step of an ordinary command that no error has ended. -/
theorem ordinaryStep_of_running {acts : Nat → State → State} {s : State} (h : s.failed = false) :
    ordinaryStep acts s = .next (tick (acts s.stepIx s)) := by
  simp [ordinaryStep, sequencerStep, h]

/-- The step after an error: the error completion (60_exceptions.md R213). -/
theorem ordinaryStep_of_failed {acts : Nat → State → State} {s : State} (h : s.failed = true) :
    ordinaryStep acts s = .next (tick (errorComplete s)) := by
  simp [ordinaryStep, sequencerStep, h]

/-- Every command's step answers a next state: the block has no stop (60_exceptions.md R223). -/
theorem exec_next (i : Instr) (s : State) : ∃ t, exec i s = .next t := by
  cases i <;> exact ⟨_, rfl⟩

theorem State.failed_eq_false_iff (s : State) : s.failed = false ↔ s.errInfo.kind = .none := by
  unfold State.failed
  cases s.errInfo.kind <;> decide

end Sys2Proof.Machine
end

