-- ==== Sys2Proof/Laws/Memory.lean ====
section
/-! SUPPORT. The byte memory: a read after a write, and that every operation keeps the canonical form. -/

namespace Sys2Proof.Machine

open Sys2Proof.Config

@[simp] theorem Memory.read_nil (a : Nat) : Memory.read [] a = 0 := rfl

theorem Memory.read_cons (k : Nat) (b : Byte) (m : Memory) (a : Nat) :
    Memory.read ((k, b) :: m) a = if k = a then b else Memory.read m a := rfl

/-- The canonical form, unfolded once. -/
theorem Memory.wf_iff (m : Memory) :
    m.wf = true ↔ (m.Pairwise fun c d => c.1 < d.1) ∧ ∀ c ∈ m, c.2 ≠ 0 := by
  simp [Memory.wf]

theorem Memory.wf_tail {c : Host.Cell} {m : Memory} (h : Memory.wf (c :: m) = true) : m.wf = true := by
  rw [Memory.wf_iff] at h ⊢
  exact ⟨(List.pairwise_cons.1 h.1).2, fun d hd => h.2 d (List.mem_cons_of_mem _ hd)⟩

theorem Memory.wf_head_lt {c : Host.Cell} {m : Memory} (h : Memory.wf (c :: m) = true) :
    ∀ d ∈ m, c.1 < d.1 := by
  rw [Memory.wf_iff] at h
  exact (List.pairwise_cons.1 h.1).1

/-- An address below every listed one reads 0. -/
theorem Memory.read_eq_zero_of_lt {m : Memory} {a : Nat} (h : ∀ d ∈ m, a < d.1) : m.read a = 0 := by
  induction m with
  | nil => rfl
  | cons c m ih =>
    obtain ⟨k, b⟩ := c
    have hk : a < k := h (k, b) (by simp)
    rw [Memory.read_cons, if_neg (by omega)]
    exact ih fun d hd => h d (List.mem_cons_of_mem _ hd)

/-- Read after write, in a canonical memory. -/
theorem Memory.read_write {m : Memory} (h : m.wf = true) (a : Nat) (b : Byte) (x : Nat) :
    (m.write a b).read x = if x = a then b else m.read x := by
  induction m with
  | nil =>
    simp only [Memory.write]
    split
    · next hb => simp [hb]
    · by_cases hx : x = a
      · simp [Memory.read_cons, hx]
      · have h1 : ¬ a = x := fun e => hx e.symm
        simp [Memory.read_cons, hx, h1]
  | cons c m ih =>
    obtain ⟨k, d⟩ := c
    have hm := Memory.wf_tail h
    have hlt := Memory.wf_head_lt h
    simp only [Memory.write]
    split
    · next hk =>
      rw [Memory.read_cons, Memory.read_cons, ih hm]
      by_cases hx : k = x
      · have : x ≠ a := by omega
        simp [hx, this]
      · simp [hx]
    · next hk =>
      split
      · next hka =>
        have hz : Memory.read m a = 0 := Memory.read_eq_zero_of_lt fun e he => by
          have := hlt e he
          simp only at this
          omega
        split
        · next hb =>
          by_cases hx : x = a
          · simp [hx, hb, hz]
          · have : ¬ k = x := by omega
            simp [Memory.read_cons, hx, this]
        · by_cases hx : x = a
          · simp [Memory.read_cons, hx]
          · have h1 : ¬ a = x := fun e => hx e.symm
            have h2 : ¬ k = x := by omega
            simp [Memory.read_cons, hx, h1, h2]
      · next hka =>
        have hz : Memory.read ((k, d) :: m) a = 0 := Memory.read_eq_zero_of_lt fun e he => by
          rcases List.mem_cons.1 he with rfl | he
          · simp only
            omega
          · have := hlt e he
            simp only at this
            omega
        split
        · next hb =>
          by_cases hx : x = a
          · simp [hx, hb, hz]
          · simp [hx]
        · by_cases hx : x = a
          · simp [Memory.read_cons, hx]
          · have h1 : ¬ a = x := fun e => hx e.symm
            rw [Memory.read_cons, if_neg h1, if_neg hx]

/-- The addresses a write can list: those listed before and its own. -/
theorem Memory.mem_write {m : Memory} {a : Nat} {b : Byte} {c : Host.Cell} (h : c ∈ m.write a b) :
    c ∈ m ∨ (c = (a, b) ∧ b ≠ 0) := by
  induction m with
  | nil =>
    simp only [Memory.write] at h
    split at h
    · cases h
    · next hb => exact .inr ⟨by simpa using h, hb⟩
  | cons e m ih =>
    obtain ⟨k, d⟩ := e
    simp only [Memory.write] at h
    split at h
    · rcases List.mem_cons.1 h with rfl | h
      · simp
      · rcases ih h with h | h
        · exact .inl (List.mem_cons_of_mem _ h)
        · exact .inr h
    · split at h
      · split at h
        · exact .inl (List.mem_cons_of_mem _ h)
        · next hb =>
          rcases List.mem_cons.1 h with rfl | h
          · exact .inr ⟨rfl, hb⟩
          · exact .inl (List.mem_cons_of_mem _ h)
      · split at h
        · exact .inl h
        · next hb =>
          rcases List.mem_cons.1 h with rfl | h
          · exact .inr ⟨rfl, hb⟩
          · exact .inl h

/-- A write keeps the canonical form. -/
theorem Memory.write_wf {m : Memory} (h : m.wf = true) (a : Nat) (b : Byte) : (m.write a b).wf = true := by
  induction m with
  | nil =>
    simp only [Memory.write]
    split
    · rfl
    · next hb => simpa [Memory.wf] using hb
  | cons e m ih =>
    obtain ⟨k, d⟩ := e
    have hm := Memory.wf_tail h
    have hlt := Memory.wf_head_lt h
    obtain ⟨hp, hn⟩ := (Memory.wf_iff _).1 h
    have hd : d ≠ 0 := hn (k, d) (by simp)
    simp only [Memory.write]
    split
    · next hk =>
      obtain ⟨hp', hn'⟩ := (Memory.wf_iff _).1 (ih hm)
      refine (Memory.wf_iff _).2 ⟨List.pairwise_cons.2 ⟨fun c hc => ?_, hp'⟩, fun c hc => ?_⟩
      · rcases Memory.mem_write hc with hc | ⟨rfl, -⟩
        · exact hlt c hc
        · exact hk
      · rcases List.mem_cons.1 hc with rfl | hc
        · exact hd
        · exact hn' c hc
    · next hk =>
      split
      · next hka =>
        split
        · exact hm
        · next hb =>
          obtain ⟨hp', hn'⟩ := (Memory.wf_iff _).1 hm
          refine (Memory.wf_iff _).2 ⟨List.pairwise_cons.2 ⟨fun c hc => ?_, hp'⟩, fun c hc => ?_⟩
          · have := hlt c hc
            simp only at this ⊢
            omega
          · rcases List.mem_cons.1 hc with rfl | hc
            · exact hb
            · exact hn' c hc
      · next hka =>
        split
        · exact h
        · next hb =>
          refine (Memory.wf_iff _).2 ⟨List.pairwise_cons.2 ⟨fun c hc => ?_, hp⟩, fun c hc => ?_⟩
          · rcases List.mem_cons.1 hc with rfl | hc
            · simp only
              omega
            · have := hlt c hc
              simp only at this ⊢
              omega
          · rcases List.mem_cons.1 hc with rfl | hc
            · exact hb
            · exact hn c hc

/-- Writing a list of bytes keeps the canonical form. -/
theorem Memory.writeBytes_wf {m : Memory} (h : m.wf = true) (a : Nat) (l : List Byte) :
    (m.writeBytes a l).wf = true := by
  induction l generalizing m a with
  | nil => exact h
  | cons b l ih => exact ih (Memory.write_wf h a b) (a + 1)

/-- The addresses a list of writes can list. -/
theorem Memory.mem_writeBytes {m : Memory} {a : Nat} {l : List Byte} {c : Host.Cell} (h : c ∈ m.writeBytes a l) :
    c ∈ m ∨ (a ≤ c.1 ∧ c.1 < a + l.length) := by
  induction l generalizing m a with
  | nil => exact .inl h
  | cons b l ih =>
    rcases ih h with h | ⟨h1, h2⟩
    · rcases Memory.mem_write h with h | ⟨rfl, -⟩
      · exact .inl h
      · exact .inr (by simp)
    · exact .inr (by simp only [List.length_cons]; omega)

/-- Read after writing a list: the list's byte inside it, the old byte outside. -/
theorem Memory.read_writeBytes {m : Memory} (h : m.wf = true) (a : Nat) (l : List Byte) (x : Nat) :
    (m.writeBytes a l).read x =
      if hx : a ≤ x ∧ x < a + l.length then l[x - a]'(by omega) else m.read x := by
  induction l generalizing m a with
  | nil =>
    simp [Memory.writeBytes]
  | cons b l ih =>
    simp only [Memory.writeBytes]
    rw [ih (Memory.write_wf h a b), Memory.read_write h]
    by_cases hx : a = x
    · subst hx
      simp
    · by_cases h1 : a + 1 ≤ x ∧ x < a + 1 + l.length
      · have h2 : a ≤ x ∧ x < a + (b :: l).length := by simp only [List.length_cons]; omega
        rw [dif_pos h1, dif_pos h2]
        have e : x - a = (x - (a + 1)) + 1 := by omega
        simp only [e, List.getElem_cons_succ]
      · have h2 : ¬ (a ≤ x ∧ x < a + (b :: l).length) := by simp only [List.length_cons]; omega
        rw [dif_neg h1, dif_neg h2, if_neg (fun e => hx e.symm)]

/-- Outside the written bytes nothing changes. -/
theorem Memory.read_writeBytes_of_outside {m : Memory} (h : m.wf = true) {a : Nat} {l : List Byte} {x : Nat}
    (hx : x < a ∨ a + l.length ≤ x) : (m.writeBytes a l).read x = m.read x := by
  rw [Memory.read_writeBytes h, dif_neg (by omega)]

end Sys2Proof.Machine
end

