-- ==== Sys2Proof/Laws/Deframe.lean ====
section
/-! SUPPORT. The deframer (42_batch_sampler.md R179): its two equations and the fields it touches. -/

namespace Sys2Proof.Machine

open Sys2Proof.Config

theorem deframe_frame {s : State} (h : s.sampCnt.toNat < s.nlat.toNat) (b0 b1 b2 b3 b4 b5 : Byte) (rest : List Byte) :
    deframe (b0 :: b1 :: b2 :: b3 :: b4 :: b5 :: rest) s =
      deframe rest (storeSample (decode6 b0 b1 b2 b3 b4 b5) s) := by
  simp [deframe, h]

theorem deframe_full {s : State} (h : s.nlat.toNat ≤ s.sampCnt.toNat) (l : List Byte) :
    deframe l s = { s with acc := l } := by
  unfold deframe
  split
  · rw [if_neg (by omega)]
  · rfl

theorem deframe_short {s : State} {l : List Byte} (h : l.length < P_FRAME) :
    deframe l s = { s with acc := l } := by
  unfold deframe
  split
  · simp only [List.length_cons, P_FRAME] at h
    omega
  · rfl

/-- A list of bytes is short, or a frame and a rest. -/
theorem frame_cases (l : List Byte) :
    l.length < P_FRAME ∨ ∃ b0 b1 b2 b3 b4 b5 rest, l = b0 :: b1 :: b2 :: b3 :: b4 :: b5 :: rest := by
  match l with
  | [] | [_] | [_, _] | [_, _, _] | [_, _, _, _] | [_, _, _, _, _] => simp [P_FRAME]
  | b0 :: b1 :: b2 :: b3 :: b4 :: b5 :: rest => exact .inr ⟨b0, b1, b2, b3, b4, b5, rest, rfl⟩

/-- Induction over the deframer's run: a property that the two ends give and a stored frame carries holds of its
result. -/
theorem deframe_induction {P : List Byte → State → Prop}
    (stop : ∀ l s, (l.length < P_FRAME ∨ s.nlat.toNat ≤ s.sampCnt.toNat) → P l s)
    (frame : ∀ b0 b1 b2 b3 b4 b5 rest s, s.sampCnt.toNat < s.nlat.toNat →
      P rest (storeSample (decode6 b0 b1 b2 b3 b4 b5) s) → P (b0 :: b1 :: b2 :: b3 :: b4 :: b5 :: rest) s)
    (l : List Byte) (s : State) : P l s := by
  induction hn : l.length using Nat.strongRecOn generalizing l s with
  | ind n ih =>
    rcases frame_cases l with h | ⟨b0, b1, b2, b3, b4, b5, rest, rfl⟩
    · exact stop l s (.inl h)
    · rcases Nat.lt_or_ge s.sampCnt.toNat s.nlat.toNat with hs | hs
      · exact frame _ _ _ _ _ _ _ _ hs (ih rest.length (by simp only [List.length_cons] at hn; omega) rest _ rfl)
      · exact stop _ s (.inr hs)

/-- The deframer touches the accumulator, SAMPCNT and the sample memory only (10_state.md R52). -/
theorem deframe_touches (l : List Byte) (s : State) :
    deframe l s = { s with acc := (deframe l s).acc, sampCnt := (deframe l s).sampCnt, mem := (deframe l s).mem } := by
  refine deframe_induction (P := fun l s => deframe l s =
    { s with acc := (deframe l s).acc, sampCnt := (deframe l s).sampCnt, mem := (deframe l s).mem }) ?_ ?_ l s
  · rintro l s (h | h)
    · rw [deframe_short h]
    · rw [deframe_full h]
  · intro b0 b1 b2 b3 b4 b5 rest s h ih
    rw [deframe_frame h]
    conv_lhs => rw [ih]
    simp [storeSample]

/-- A stored frame adds 1 to SAMPCNT; it cannot wrap while the batch is not full. -/
theorem storeSample_sampCnt_toNat {s : State} (h : s.sampCnt.toNat < s.nlat.toNat) (v : Sample) :
    (storeSample v s).sampCnt.toNat = s.sampCnt.toNat + 1 := by
  have := s.nlat.isLt
  simp only [storeSample, BitVec.toNat_add]
  rw [Nat.mod_eq_of_lt]
  · simp
  · simp
    omega

/-- The deframer never decodes more than `nlat` samples (42_batch_sampler.md R180). -/
theorem deframe_sampCnt_le {l : List Byte} {s : State} (h : s.sampCnt.toNat ≤ s.nlat.toNat) :
    (deframe l s).sampCnt.toNat ≤ s.nlat.toNat := by
  revert h
  refine deframe_induction
    (P := fun l s => s.sampCnt.toNat ≤ s.nlat.toNat → (deframe l s).sampCnt.toNat ≤ s.nlat.toNat) ?_ ?_ l s
  · rintro l s (h | h) hs
    · rw [deframe_short h]; exact hs
    · rw [deframe_full h]; exact hs
  · intro b0 b1 b2 b3 b4 b5 rest s h ih _
    rw [deframe_frame h]
    exact ih (by rw [storeSample_sampCnt_toNat h]; exact h)

/-- The deframer keeps the canonical form of the memory. -/
theorem deframe_wf {l : List Byte} {s : State} (h : s.mem.wf = true) : (deframe l s).mem.wf = true := by
  revert h
  refine deframe_induction (P := fun l s => s.mem.wf = true → (deframe l s).mem.wf = true) ?_ ?_ l s
  · rintro l s (h | h) hw
    · rw [deframe_short h]; exact hw
    · rw [deframe_full h]; exact hw
  · intro b0 b1 b2 b3 b4 b5 rest s h ih hw
    rw [deframe_frame h]
    exact ih (Memory.writeBytes_wf hw _ _)

end Sys2Proof.Machine
end

