-- ==== Sys2Proof/Laws/HostPort.lean ====
section
/-! SUPPORT. What a host write can do to the block, and that it keeps the canonical form of the memory. -/

namespace Sys2Proof.Machine

open Sys2Proof.Config

/-- With BUSY = 0 a host write to CMD is the acceptance of 43_control.md R201. -/
theorem hostWrite_command_of_idle {s : State} (h : s.busy = false) (w : Word) :
    hostWrite 0x004 w s = acceptCommand w s := by
  simp [hostWrite, busyGuarded, h]

/-- Everything a host write can do (20_memory.md R66, R67). -/
theorem hostWrite_cases (off : Offset) (v : Word) (s : State) :
    (off.toNat = 0x008 ∧ hostWrite off v s = clearSticky v s) ∨
    (busyGuarded off.toNat = true ∧ s.busy = true ∧ hostWrite off v s = { s with cmdRejected := true }) ∨
    (s.busy = false ∧
      ((off.toNat = 0x004 ∧ hostWrite off v s = acceptCommand v s) ∨
        (off.toNat = 0x010 ∧
          hostWrite off v s = { s with busAddr := v.extractLsb' 0 7, rangeG := v.extractLsb' 8 8 }) ∨
        (off.toNat = 0x014 ∧ hostWrite off v s = { s with targetRate := v.extractLsb' 0 16 }) ∨
        (off.toNat = 0x018 ∧ hostWrite off v s = { s with nsamp := v.extractLsb' 0 16 }) ∨
        (0x040 ≤ off.toNat ∧ off.toNat < 0x060 ∧
          hostWrite off v s = { s with mem := s.mem.writeBytes off.toNat (wordBytes v) }))) ∨
    hostWrite off v s = s := by
  by_cases h8 : off.toNat = 0x008
  · exact .inl ⟨h8, by simp [hostWrite, h8]⟩
  by_cases hg : busyGuarded off.toNat = true
  · by_cases hb : s.busy = true
    · exact .inr (.inl ⟨hg, hb, by simp [hostWrite, h8, hg, hb]⟩)
    · have hb : s.busy = false := by simpa using hb
      refine .inr (.inr (.inl ⟨hb, ?_⟩))
      by_cases h1 : off.toNat = 0x004
      · exact .inl ⟨h1, by simp [hostWrite, h1, busyGuarded, hb]⟩
      by_cases h2 : off.toNat = 0x010
      · exact .inr (.inl ⟨h2, by simp [hostWrite, h2, busyGuarded, hb]⟩)
      by_cases h3 : off.toNat = 0x014
      · exact .inr (.inr (.inl ⟨h3, by simp [hostWrite, h3, busyGuarded, hb]⟩))
      by_cases h4 : off.toNat = 0x018
      · exact .inr (.inr (.inr (.inl ⟨h4, by simp [hostWrite, h4, busyGuarded, hb]⟩)))
      have hr : 0x040 ≤ off.toNat ∧ off.toNat < 0x060 := by simpa [busyGuarded, h1, h2, h3, h4] using hg
      exact .inr (.inr (.inr (.inr ⟨hr.1, hr.2, by simp [hostWrite, h1, h2, h3, h4, h8, hg, hb]⟩)))
  · exact .inr (.inr (.inr (by simp [hostWrite, h8, hg])))

/-- The fields of the CFG_DEV word (10_state.md R35). -/
theorem cfgDevWord_fields (a : DevAddr) (r : Byte) :
    (cfgDevWord a r).extractLsb' 0 7 = a ∧ (cfgDevWord a r).extractLsb' 8 8 = r := by
  constructor <;> apply BitVec.eq_of_getLsbD_eq <;> intro i hi <;>
    simp only [cfgDevWord, BitVec.getLsbD_extractLsb', BitVec.getLsbD_append]
  · simp [hi]
  · simp [hi, show ¬ 8 + i < 7 by omega, show ¬ 8 + i - 7 < 1 by omega, show 8 + i - 7 - 1 = i by omega]

/-- The CFG_DEV write of `cfg` stores the two fields while BUSY = 0 (20_memory.md R66). -/
theorem hostWrite_cfgDev_of_idle {s : State} (h : s.busy = false) (a : DevAddr) (r : Byte) :
    hostWrite 0x010 (cfgDevWord a r) s = { s with busAddr := a, rangeG := r } := by
  simp [hostWrite, busyGuarded, h, cfgDevWord_fields]

/-- A `cfg` that leaves range out stores it again as CFG_DEV holds it (log 25). -/
theorem cfgDevWrite_addr (a : DevAddr) (s : State) :
    cfgDevWrite (some a) none (hostRead 0x010 s) = [cfgDev a s.rangeG] := by
  simp only [cfgDevWrite, show hostRead 0x010 s = cfgDevWord s.busAddr s.rangeG from rfl, cfgDevWord_fields]

/-- A `cfg` that leaves addr out stores it again as CFG_DEV holds it (log 25). -/
theorem cfgDevWrite_range (r : Byte) (s : State) :
    cfgDevWrite none (some r) (hostRead 0x010 s) = [cfgDev s.busAddr r] := by
  simp only [cfgDevWrite, show hostRead 0x010 s = cfgDevWord s.busAddr s.rangeG from rfl, cfgDevWord_fields]

/-- A host write keeps the canonical form of the memory. -/
theorem hostWrite_wf {s : State} (h : s.mem.wf = true) (off : Offset) (v : Word) :
    (hostWrite off v s).mem.wf = true := by
  rcases hostWrite_cases off v s with
    ⟨-, e⟩ | ⟨-, -, e⟩ | ⟨-, ⟨-, e⟩ | ⟨-, e⟩ | ⟨-, e⟩ | ⟨-, e⟩ | ⟨-, -, e⟩⟩ | e <;> rw [e]
  · exact h
  · exact h
  · exact h
  · exact h
  · exact h
  · exact h
  · exact Memory.writeBytes_wf h _ _
  · exact h

end Sys2Proof.Machine
end

