-- ==== Sys2Proof/Laws/PerInstr.lean ====
section
/-! SUPPORT. Facts about each command as syntax: its word matches its row's mask and pattern (spec 30_encoding.md R94,
opcode_table.json). -/

namespace Sys2Proof.Laws.MaskMatch

/-- R94: with `mask = 0xFF00_00FF`, the word of a command with opcode k has `cmd & mask = k`. -/
def Statement (i : Instr) : Prop := encode i &&& 0xFF0000FF = i.opcode.zeroExtend 32

/-- The mask keeps the opcode and the reserved fields and drops REG and ARG. -/
theorem masked (op : BitVec 4) (reg arg : Byte) :
    ((0 : Byte) ++ arg ++ reg ++ (0 : BitVec 4) ++ op : Word) &&& 0xFF0000FF = op.zeroExtend 32 := by
  have hm : ∀ j : Fin 32, (0xFF0000FF : Word).getLsbD j.val = (decide (j.val < 8) || decide (24 ≤ j.val)) := by decide
  apply BitVec.eq_of_getLsbD_eq
  intro j hj
  have hj' := hm ⟨j, hj⟩
  simp only at hj'
  rw [BitVec.getLsbD_and, hj']
  simp only [BitVec.getLsbD_append, BitVec.truncate_eq_setWidth, BitVec.getLsbD_setWidth]
  by_cases h4 : j < 4
  · have h8 : j < 8 := by omega
    have h32 : j < 32 := by omega
    simp [h4, h8, h32]
  · have hop : op.getLsbD j = false := BitVec.getLsbD_of_ge _ _ (by omega)
    by_cases h8 : j < 8
    · have h : j - 4 < 4 := by omega
      simp [h4, h, hop]
    · by_cases h24 : 24 ≤ j
      · have h1 : ¬ j - 4 < 4 := by omega
        have h2 : ¬ j - 4 - 4 < 8 := by omega
        have h3 : ¬ j - 4 - 4 - 8 < 8 := by omega
        simp [h4, h1, h2, h3, hop]
      · simp [h8, h24, hop]

theorem nop : Statement .nop := masked _ _ _
theorem wrreg (reg data : Byte) : Statement (.wrreg reg data) := masked _ _ _
theorem rdreg (reg : Byte) : Statement (.rdreg reg) := masked _ _ _
theorem rdblk (reg len : Byte) : Statement (.rdblk reg len) := masked _ _ _
theorem init : Statement .init := masked _ _ _
theorem fifoOn : Statement .fifoOn := masked _ _ _
theorem fifoOff : Statement .fifoOff := masked _ _ _
theorem fifoReset : Statement .fifoReset := masked _ _ _
theorem rdstatus : Statement .rdstatus := masked _ _ _
theorem rdcount : Statement .rdcount := masked _ _ _
theorem drain : Statement .drain := masked _ _ _
theorem decodeFrame (len : Byte) : Statement (.decodeFrame len) := masked _ _ _
theorem acquire : Statement .acquire := masked _ _ _

end Sys2Proof.Laws.MaskMatch
end

