-- ==== Sys2Proof/Tests/Slice0.lean ====
section
/-! SUPPORT. The model's own tests. Expected values come from spec 30_encoding.md R103 and from the vectors of
95_test_vectors.md, named at each test. Then, for every statement with hypotheses, a witness that meets them. -/

namespace Sys2Proof.Tests

open Sys2Proof Sys2Proof.Machine Sys2Proof.Config

/-! ### Helpers -/

/-- A test on the next state; false where the step stops. -/
def after (o : Host.Outcome State Fault Refusal) (p : State → Bool) : Bool :=
  match o with
  | .next t => p t
  | _ => false

/-- V7's configuration: device 0x68, range 4 g, 1000 Hz. -/
def configured : State := { State.reset with busAddr := 0x68, rangeG := 4, targetRate := 1000 }

/-- A command word just accepted, with the answers the sensor will give. -/
def accepted (w : Word) (a : List SensorAnswer) (s : State) : State := { acceptCommand w s with sensor := a }

/-- An ACQUIRE of 7 samples after DRV1, at the given phase. -/
def acquiring (p : Phase) (x : SState) (a : List SensorAnswer) : State :=
  { accepted 0x0000000C a
      { configured with initDone := true, divisor := 7, range := 4, fsCode := 8, nsamp := 7, nlat := 7 } with
    phase := p, sstate := x }

/-- A block at rest that holds a complete batch of one sample. -/
def completed : State :=
  { configured with
    initDone := true, range := 4, fsCode := 8, nsamp := 1, nlat := 1, sampCnt := 1, sstate := .complete, done := true
    cmd := 0x0000000C }

/-! ### WellFormed: 30_encoding.md R98, R100 -/

theorem test_wf_rdblk_zero : (Instr.rdblk 0x74 0).wf = false := by decide
theorem test_wf_rdblk_one : (Instr.rdblk 0x74 1).wf = true := by decide
theorem test_wf_rdblk_max : (Instr.rdblk 0x74 32).wf = true := by decide
theorem test_wf_rdblk_above : (Instr.rdblk 0x74 33).wf = false := by decide
theorem test_wf_decode_any : (Instr.decodeFrame 255).wf = true := by decide

/-! ### Words written out from 30_encoding.md R91, R93 and R103: RSV1, ARG, REG, RSV0, OP -/

theorem test_decode_nop : decode 0b00000000_00000000_00000000_0000_0000 = .ok .nop := by decide
theorem test_decode_wrreg : decode 0b00000000_10000000_01101011_0000_0001 = .ok (.wrreg 0x6B 0x80) := by decide
theorem test_decode_rdreg : decode 0b00000000_00000000_00111010_0000_0010 = .ok (.rdreg 0x3A) := by decide
theorem test_decode_rdblk : decode 0b00000000_00011110_01110100_0000_0011 = .ok (.rdblk 0x74 30) := by decide
theorem test_decode_init : decode 0b00000000_00000000_00000000_0000_0100 = .ok .init := by decide
theorem test_decode_fifoOn : decode 0b00000000_00000000_00000000_0000_0101 = .ok .fifoOn := by decide
theorem test_decode_fifoOff : decode 0b00000000_00000000_00000000_0000_0110 = .ok .fifoOff := by decide
theorem test_decode_fifoReset : decode 0b00000000_00000000_00000000_0000_0111 = .ok .fifoReset := by decide
theorem test_decode_rdstatus : decode 0b00000000_00000000_00000000_0000_1000 = .ok .rdstatus := by decide
theorem test_decode_rdcount : decode 0b00000000_00000000_00000000_0000_1001 = .ok .rdcount := by decide
theorem test_decode_drain : decode 0b00000000_00000000_00000000_0000_1010 = .ok .drain := by decide
theorem test_decode_decodeFrame :
    decode 0b00000000_00000110_00000000_0000_1011 = .ok (.decodeFrame 6) := by decide
theorem test_decode_acquire : decode 0b00000000_00000000_00000000_0000_1100 = .ok .acquire := by decide
/-- V5 F9: REG is ignored. -/
theorem test_decode_ignored_reg : decode 0x0006FF0B = .ok (.decodeFrame 6) := by decide
theorem test_decode_reserved_opcodes :
    decode 0x0000000D = .error .reservedOpcode ∧ decode 0x0000000E = .error .reservedOpcode ∧
      decode 0x0000000F = .error .reservedOpcode := by decide
theorem test_decode_reserved_bits :
    decode 0x000000F0 = .error .reservedBits ∧ decode 0x0100000C = .error .reservedBits := by decide
/-- 30_encoding.md R99: the opcode is checked before the reserved bits. -/
theorem test_decode_order : decode 0x010000FF = .error .reservedOpcode := by decide
theorem test_encode_wrreg : encode (.wrreg 0x6B 0x80) = 0x00806B01 := by decide
theorem test_table_word : decodeTableWord 32 0x001E7403 = some (.rdblk 0x74 30) := by decide

/-- A word placed for the next step is the word the next step runs. -/
theorem test_fetch_word :
    after (step (State.reset.withFetchWord 32 0)) (fun t => t.done && !t.busy && t.stepIx == 1) = true := by decide

/-! ### The expansions of `cfg`: 95_test_vectors.md programs P1 and P2 -/

theorem test_cfg_dev_and_rate :
    cfg (some 0x68) (some 4) (some 1000) none 0 = [st32 0x010 0x00000468, st32 0x014 0x000003E8] := by decide
theorem test_cfg_batch : cfg none none none (some 7) 0 = [st32 0x018 0x00000007] := by decide

/-! ### One step of each command -/

/-- 43_control.md R200. -/
theorem test_nop : after (exec .nop (accepted 0 [] configured)) (fun t => t.done && !t.busy && !t.err) = true := by
  decide

/-- V4 B1. -/
theorem test_wrreg :
    after (exec (.wrreg 0x6B 0x80) (accepted 0x00806B01 [.ok []] configured))
      (fun t => t.trace == [⟨.write 0x68 0x6B 0x80, .ok []⟩] && t.xcount == 1 && t.busy) = true := by decide

/-- V4 B2. -/
theorem test_wrreg_error :
    after (exec (.wrreg 0x6B 0x80) (accepted 0x00806B01 [.err 3] configured))
      (fun t => hostRead 0x00C t == 0x00030004 && t.errSticky && t.busy) = true := by decide

/-- V4 B4. -/
theorem test_rdreg :
    after (exec (.rdreg 0x3A) (accepted 0x00003A02 [.ok [0x11]] configured))
      (fun t => hostRead 0x030 t == 0x00000011 && t.lastIntStatus == 0) = true := by decide

/-- V4 B5. -/
theorem test_rdblk :
    after (exec (.rdblk 0x3B 6) (accepted 0x00063B03 [.ok [0x00, 0x64, 0xFF, 0x9C, 0x00, 0x00]] configured))
      (fun t => hostRead 0x040 t == 0x9CFF6400 && hostRead 0x044 t == 0 && t.lastLen == 6) = true := by decide

/-- V4 B7. -/
theorem test_rdblk_length :
    after (exec (.rdblk 0x74 33) (accepted 0x00217403 [] configured))
      (fun t => hostRead 0x00C t == 0x00000035 && t.done && t.trace == []) = true := by decide

/-- V7 DRV1: the divisor write. -/
theorem test_init_divisor :
    after (exec .init { accepted 0x00000004 [.ok []] configured with stepIx := 2, xcount := 1 })
      (fun t => t.divisor == 7 && t.trace == [⟨.write 0x68 0x19 0x07, .ok []⟩]) = true := by decide

/-- V7 DRV3: the range is checked before the rate. -/
theorem test_init_validation :
    after (exec .init (accepted 0x00000004 [] { configured with rangeG := 3, targetRate := 0 }))
      (fun t => hostRead 0x00C t == 0x00000011 && t.trace == [] && t.done) = true := by decide

/-- V7 DRV8: the last write. -/
theorem test_fifoOn :
    after (exec .fifoOn { accepted 0x00000005 [.ok []] configured with stepIx := 3, xcount := 3 })
      (fun t => t.trace == [⟨.write 0x68 0x23 0x08, .ok []⟩]) = true := by decide

/-- V7 DRV9. -/
theorem test_fifoOn_error :
    after (exec .fifoOn { accepted 0x00000005 [.err 4] configured with stepIx := 1, xcount := 1 })
      (fun t => hostRead 0x00C t == 0x00040104) = true := by decide

/-- V7 DRV10. -/
theorem test_fifoOff :
    after (exec .fifoOff (accepted 0x00000006 [.ok []] configured))
      (fun t => t.trace == [⟨.write 0x68 0x23 0x00, .ok []⟩]) = true := by decide

/-- V7 DRV11: the second write. -/
theorem test_fifoReset :
    after (exec .fifoReset { accepted 0x00000007 [.ok []] { configured with fifoCnt := 17 } with stepIx := 1 })
      (fun t => t.trace == [⟨.write 0x68 0x6A 0x04, .ok []⟩] && t.fifoCnt == 17) = true := by decide

/-- V7 DRV12. -/
theorem test_rdstatus :
    after (exec .rdstatus (accepted 0x00000008 [.ok [0x11]] configured))
      (fun t => t.rdByte == 0x11 && (hostRead 0x008 t).extractLsb' 16 8 == 0x11 && !t.err) = true := by decide

/-- V6 K4: the second read. -/
theorem test_rdcount :
    after (exec .rdcount { accepted 0x00000009 [.ok [0]] configured with stepIx := 1, xcount := 1, cntHigh := 1 })
      (fun t => t.fifoCnt == 256 && t.cntMisaligned) = true := by decide

/-- V6 K5. -/
theorem test_rdcount_error :
    after (exec .rdcount
        { accepted 0x00000009 [.err 9] { configured with fifoCnt := 17 } with stepIx := 1, xcount := 1 })
      (fun t => t.fifoCnt == 17 && hostRead 0x00C t == 0x00090104) = true := by decide

/-- V6 K7. -/
theorem test_drain_empty :
    after (exec .drain (accepted 0x0000000A [] configured))
      (fun t => t.done && t.lastLen == 0 && t.trace == []) = true := by decide

/-- V6 K10. -/
theorem test_drain_burst :
    after (exec .drain (accepted 0x0000000A [.ok (List.replicate 30 1)] { configured with fifoCnt := 31 }))
      (fun t => t.fifoCnt == 1 && t.lastLen == 30 && t.databuf 29 == 1 && t.databuf 30 == 0) = true := by decide

/-- V5 F1. -/
theorem test_decodeFrame :
    after (exec (.decodeFrame 6)
        (accepted 0x0006000B [] (storeDatabuf [0x00, 0x64, 0xFF, 0x9C, 0x00, 0x00] configured)))
      (fun t => hostRead 0x034 t == 0xFF9C0064 && hostRead 0x038 t == 0 && t.done) = true := by decide

/-- V5 F6. -/
theorem test_decodeFrame_length :
    after (exec (.decodeFrame 5) (accepted 0x0005000B [] configured))
      (fun t => hostRead 0x00C t == 0x00000003 && hostRead 0x034 t == 0) = true := by decide

/-- V8 Q5: overflow wins over data-ready. -/
theorem test_acquire_overflow :
    after (exec .acquire { acquiring .poll .accumulating [.ok [0x11]] with stepIx := 5, xcount := 4 })
      (fun t => hostRead 0x00C t == 0x00000002 && t.sstate == .overflow && t.phase == .abort &&
        t.lastIntStatus == 0x11) = true := by decide

/-- V8 Q8: a partial frame is completed by the next burst. -/
theorem test_acquire_partial_frame :
    after (exec .acquire
        { acquiring .drain .accumulating [.ok [0x00]] with
          acc := [0x00, 0x11, 0xFF, 0xEF, 0x40], fifoCnt := 1, sampCnt := 1, nlat := 2 })
      (fun t => t.sampCnt == 2 && t.acc == [] && t.phase == .finish && t.sample 1 == ⟨17, 0xFFEF, 0x4000⟩) = true := by
  decide

/-- V3: two ties and the clamp. -/
theorem test_divcalc : divcalc 128 = 61 ∧ divcalc 3200 = 1 ∧ divcalc 31 = 255 ∧ divcalc 16000 = 0 := by decide

/-- 70_reset_and_hazards.md R241: the registers right after reset. -/
theorem test_reset_status : hostRead 0x008 State.reset = 0 ∧ hostRead 0x000 State.reset = 0x56410001 := by decide

theorem test_reset_memory_wf : State.reset.mem.wf = true := by decide

/-- The default parameters are legal (20_memory.md R70, R61). -/
theorem test_default_params_legal : Params.default.Legal := by decide

/-! ### Witnesses: concrete states and operands that meet the hypotheses of each statement, clause by clause -/

theorem witness_DecodeIsMaskAndMatch :
    decode 0x00FFFF0C = .ok .acquire ∧ ((0x00FFFF0C : Word) &&& 0xFF0000FF).toNat ≤ 0xC := by decide

theorem witness_IgnoredFieldsAreIgnored :
    let w : Word := 0x0006000B
    let w' : Word := 0x0006FF0B
    (opField w = opField w' ∧ rsv0Field w = rsv0Field w' ∧ rsv1Field w = rsv1Field w' ∧
      (opField w = 1 ∨ opField w = 2 ∨ opField w = 3 → regField w = regField w') ∧
      (opField w = 1 ∨ opField w = 3 ∨ opField w = 0xB → argField w = argField w') ∧ w ≠ w') ∧
      0xD ≤ (opField 0x0000000D).toNat := by decide

theorem witness_ReservedOpcodeIsIllegal :
    configured.busy = false ∧ 0xD ≤ (opField 0x0000000D).toNat ∧ 0xD ≤ (opField 0xFFFFFFFF).toNat := by decide

theorem witness_ReservedBitsAreIllegal :
    configured.busy = false ∧ ((opField 0x000000F0).toNat ≤ 0xC ∧ rsv0Field 0x000000F0 ≠ 0) ∧
      (opField 0x0100000C).toNat ≤ 0xC ∧ rsv1Field 0x0100000C ≠ 0 := by decide

theorem witness_BlockLengthOutOfRangeIsIllegal :
    let w : Word := 0x00217403
    configured.busy = false ∧
      (opField w = 3 ∧ rsv0Field w = 0 ∧ rsv1Field w = 0 ∧ 32 < (argField w).toNat) ∧
      (opField 0x00007403 = 3 ∧ argField 0x00007403 = 0) ∧
      opField 0x00FF000B = 0xB ∧ rsv0Field 0x00FF000B = 0 ∧ rsv1Field 0x00FF000B = 0 ∧ argField 0x00FF000B ≠ 6 := by
  decide

theorem witness_StepRunsTheAcceptedCommand :
    let s := acquiring .start .idle []
    s.busy = true ∧ decode s.cmd = .ok .acquire ∧ s.turns = [] ∧
      { s with turns := [.sequencer] }.turns = .sequencer :: [] ∧
      { s with turns := [.host] }.turns = .host :: [] ∧
      { configured with turns := [.sequencer] }.busy = false ∧ configured.turns = [] ∧ configured.host = [] := by
  decide

theorem witness_StatusFieldsAsRead :
    { configured with acc := List.replicate 35 7 }.acc.length ≤ 35 ∧ (7 : Nat) < 8 ∧ (3 : Nat) < 4 := by decide

theorem witness_CommandAcceptance : configured.busy = false ∧ (accepted 0 [] configured).busy = true := by decide

theorem witness_BusyWritesAreRejected :
    (accepted 0 [] configured).busy = true ∧ 0x040 ≤ (0x05C : Offset).toNat ∧ (0x05C : Offset).toNat < 0x060 := by
  decide

theorem witness_HostWriteEffects :
    configured.busy = false ∧ configured.mem.wf = true ∧ (7 : Nat) < 8 ∧
      (let off : Offset := 0x060
      off ≠ 0x004 ∧ off ≠ 0x008 ∧ off ≠ 0x010 ∧ off ≠ 0x014 ∧ off ≠ 0x018 ∧ 0x060 ≤ off.toNat) ∧
      (0x03C : Offset).toNat < 0x040 := by decide

theorem witness_HostReadsHaveNoSideEffects :
    { configured with host := [ld32 0x7FFC] }.host = .ld 0x7FFC 4 :: [] ∧ (0x7FFC : Offset).toNat % 4 = 0 ∧
      { configured with host := [.poll] }.host = .poll :: [] := by decide

theorem witness_UnsupportedAccessIsRefused :
    ((0x005 : Offset).toNat % 4 ≠ 0 ∧ { configured with host := [.ld 0x005 4] }.host = .ld 0x005 4 :: []) ∧
      ((2 : Nat) ≠ 4 ∧ { configured with host := [.st 0x004 2 0] }.host = .st 0x004 2 0 :: []) ∧
      (0x004 : Offset).toNat % 4 = 0 ∧ { configured with host := [st32 0x004 0] }.host = .st 0x004 4 0 :: [] := by
  decide

theorem witness_ReservedReadsAreZero :
    0x060 ≤ (0x060 : Offset).toNat ∧ (0x3FFC : Offset).toNat < 0x4000 := by decide

theorem witness_SamplesWindowIsGated :
    (completed.sstate = .complete ∧ 0 < completed.nlat.toNat) ∧ completed.nlat.toNat ≤ 1 ∧
      configured.sstate ≠ .complete ∧ 2047 < 2048 := by decide

theorem witness_HostWritesDoNotDisturbACommand : (acquiring .poll .accumulating []).busy = true := by decide

theorem witness_ResetValues : (0x7FFC : Offset).toNat % 4 = 0 ∧ (0x7FFC : Offset) ≠ 0 := by decide

theorem witness_ResetAbandonsTheCommand :
    { acquiring .poll .accumulating [] with turns := [.reset] }.turns = .reset :: [] := by decide

theorem witness_NopCompletes : (accepted 0 [] configured).errInfo = .zero := by decide

theorem witness_WrregWritesOneRegister :
    let s := accepted 0x00806B01 [.ok []] configured
    s.errInfo = .zero ∧ s.stepIx = 0 ∧ s.sensor = .ok [] :: [] := by decide

theorem witness_RdregReadsOneRegister :
    let s := accepted 0x00003A02 [.ok [0x11]] configured
    s.errInfo = .zero ∧ s.stepIx = 0 ∧ s.sensor = .ok [0x11] :: [] := by decide

theorem witness_RdblkFillsTheBuffer :
    let s := accepted 0x00207403 [.ok (List.replicate 32 7)] configured
    s.errInfo = .zero ∧ s.stepIx = 0 ∧ s.mem.wf = true ∧ 1 ≤ (32 : Byte).toNat ∧ (32 : Byte).toNat ≤ 32 ∧
      FitsBlock s.params (32 : Byte).toNat (List.replicate 32 7) ∧ s.sensor = .ok (List.replicate 32 7) :: [] := by
  decide

theorem witness_InitProgramsTheSensor :
    let s := accepted 0x00000004 (List.replicate 5 (.ok [])) configured
    s.Accepted ∧ s.rangeG = 4 ∧ (8 : Byte) = 8 ∧ s.targetRate ≠ 0 ∧
      s.sensor = .ok [] :: .ok [] :: .ok [] :: .ok [] :: .ok [] :: [] := by decide

theorem witness_InitValidationOrder :
    let s := accepted 0x00000004 [] { configured with rangeG := 3, targetRate := 0 }
    let s' := accepted 0x00000004 [] { configured with rangeG := 16, targetRate := 0 }
    (s.errInfo = .zero ∧ s.stepIx = 0 ∧ s.phase = .none ∧
      s.rangeG ≠ 2 ∧ s.rangeG ≠ 4 ∧ s.rangeG ≠ 8 ∧ s.rangeG ≠ 16) ∧
    s'.errInfo = .zero ∧ s'.stepIx = 0 ∧ s'.phase = .none ∧ s'.rangeG = 16 ∧ s'.targetRate = 0 := by decide

theorem witness_FifoSequences :
    let s := accepted 0x00000005 [.ok []] configured
    s.errInfo = .zero ∧ s.sensor = .ok [] :: [] ∧ s.stepIx = 0 ∧
      ({ s with stepIx := 4 }.errInfo = .zero ∧ { s with stepIx := 4 }.sensor = .ok [] :: []) := by decide

theorem witness_FifoOffWritesOnce :
    let s := accepted 0x00000006 [.ok []] configured
    s.errInfo = .zero ∧ s.stepIx = 0 ∧ s.sensor = .ok [] :: [] := by decide

theorem witness_RdstatusCachesTheByte :
    let s := accepted 0x00000008 [.ok [0x10]] configured
    s.errInfo = .zero ∧ s.stepIx = 0 ∧ s.sensor = .ok [0x10] :: [] := by decide

theorem witness_RdcountRefreshesTheCount :
    let s := accepted 0x00000009 [.ok [0xFF], .ok [0xFF]] configured
    s.errInfo = .zero ∧ s.stepIx = 0 ∧ s.sensor = .ok [0xFF] :: .ok [0xFF] :: [] := by decide

theorem witness_DrainReadsOneBurst :
    let s := accepted 0x0000000A [.ok (List.replicate 30 7)] { configured with fifoCnt := 31 }
    let s' := accepted 0x0000000A [] configured
    (s.errInfo = .zero ∧ s.stepIx = 0 ∧ s.fifoCnt ≠ 0 ∧ s.mem.wf = true ∧
      FitsBlock s.params (min s.fifoCnt.toNat 30) (List.replicate 30 7) ∧
      s.sensor = .ok (List.replicate 30 7) :: []) ∧
    s'.errInfo = .zero ∧ s'.stepIx = 0 ∧ s'.fifoCnt = 0 := by decide

theorem witness_DecodeCommand :
    let s := accepted 0x0007000B [] configured
    s.errInfo = .zero ∧ s.stepIx = 0 ∧ (7 : Byte) ≠ 6 ∧ s.phase.inCycle = false := by decide

theorem witness_BusErrorStopsTheCommand :
    let s := accepted 0x00806B01 [.err 3] configured
    ∃ t : State, (Instr.wrreg 0x6B 0x80 ≠ .acquire ∧ s.errInfo = .zero ∧ s.phase = .none) ∧
      exec (.wrreg 0x6B 0x80) s = .next t ∧ t.trace = ⟨.write 0x68 0x6B 0x80, .err 3⟩ :: s.trace :=
  ⟨_, by decide, rfl, rfl⟩

/-- V7 DRV6 after an earlier INIT: the device-reset write fails, and INIT_DONE has been cleared. -/
theorem witness_BusErrorStopsTheCommand_init :
    let s := accepted 0x00000004 [.err 1] { configured with initDone := true }
    ∃ t : State, (Instr.init ≠ .acquire ∧ s.errInfo = .zero ∧ s.phase = .none ∧ s.stepIx = 0) ∧
      exec .init s = .next t ∧ t.trace = ⟨.write 0x68 0x6B 0x80, .err 1⟩ :: s.trace ∧ t.initDone = false :=
  ⟨_, by decide, rfl, rfl, rfl⟩

theorem witness_ErrorCauseTable :
    let s := accepted 0x00806B01 [.err 3] configured
    ∃ t : State, s.errInfo = .zero ∧ exec (.wrreg 0x6B 0x80) s = .next t ∧ t.errInfo.kind ≠ .none :=
  ⟨_, rfl, rfl, by decide⟩

/-- V8 Q12 before its abort write. -/
def aborting : State := { acquiring .abort .overflow [.err 5] with errInfo := ⟨.fifoOverflow, 0, 0, 0⟩ }

theorem aborting_inv : aborting.Inv := by
  constructor <;> decide

theorem witness_FirstErrorIsKept :
    ∃ t : State, aborting.Inv ∧ aborting.busy = true ∧ decode aborting.cmd = .ok .acquire ∧
      aborting.errInfo.kind ≠ .none ∧ exec .acquire aborting = .next t :=
  ⟨_, aborting_inv, rfl, by decide, by decide, rfl⟩

theorem witness_CommandsCompleteInSevenSteps :
    Instr.init ≠ .acquire ∧ (accepted 0x00000004 [] configured).Accepted := by decide

theorem witness_AcquireStartChecks :
    let s := acquiring .start .idle []
    s.phase = .start ∧ { s with initDone := false }.initDone = false ∧ s.initDone = true ∧
      { s with nsamp := 0 }.nsamp.toNat = 0 ∧ 2048 < { s with nsamp := 2049 }.nsamp.toNat := by decide

theorem witness_AcquireArms :
    let s := acquiring .start .idle [.ok []]
    (s.phase = .start ∧ s.sensor = .ok [] :: [] ∧ s.initDone = true ∧ 1 ≤ s.nsamp.toNat ∧ s.nsamp.toNat ≤ 2048) ∧
      (1 ≤ { s with nsamp := 2048 }.nsamp.toNat ∧ { s with nsamp := 2048 }.nsamp.toNat ≤ 2048) ∧
      { s with phase := .arm1 }.phase = .arm1 ∧ { s with phase := .arm2 }.phase = .arm2 ∧
      { s with phase := .arm3 }.phase = .arm3 ∧ { s with phase := .settle }.phase = .settle := by decide

theorem witness_AcquirePolls :
    let s := acquiring .poll .accumulating [.ok [0x11]]
    (s.phase = .poll ∧ s.fifoCnt = 0 ∧ s.sensor = .ok [0x11] :: []) ∧
      (0x11 : Byte).getLsbD s.params.B_OFLOW.val = true ∧
      ((0x01 : Byte).getLsbD s.params.B_OFLOW.val = false ∧ (0x01 : Byte).getLsbD s.params.B_DRDY.val = true) ∧
      (0x00 : Byte).getLsbD s.params.B_OFLOW.val = false ∧ (0x00 : Byte).getLsbD s.params.B_DRDY.val = false := by
  decide

theorem witness_AcquireRefreshesTheCount :
    (acquiring .cnth .accumulating [.ok [0]]).sensor = .ok [0] :: [] ∧
      (acquiring .cnth .accumulating [.ok [0]]).phase = .cnth ∧
      (acquiring .cntl .accumulating [.ok [0]]).phase = .cntl := by decide

/-- A drain with a partial frame in the accumulator. -/
def draining : State :=
  { acquiring .drain .accumulating [.ok (List.replicate 30 7)] with fifoCnt := 42, acc := [1, 2, 3, 4, 5] }

theorem draining_inv : draining.Inv := by
  constructor <;> decide

theorem witness_AcquireDrainExtendsTheStream :
    let s := draining
    s.Inv ∧ s.phase = .drain ∧ s.fifoCnt ≠ 0 ∧
      FitsBlock s.params (min s.fifoCnt.toNat 30) (List.replicate 30 7) ∧ s.sensor = .ok (List.replicate 30 7) :: [] :=
  ⟨draining_inv, rfl, by decide, by decide, rfl⟩

theorem witness_AcquireFinishes :
    let s (p : Phase) (x : SState) (a : SensorAnswer) := acquiring p x [a]
    ((s .finish .accumulating (.ok [])).phase = .finish ∧
      (s .finish .accumulating (.ok [])).sensor = .ok [] :: []) ∧
    ((s .finish .accumulating (.err 7)).phase = .finish ∧
      (s .finish .accumulating (.err 7)).sensor = .err 7 :: []) ∧
    (s .doneComplete .complete (.ok [])).phase = .doneComplete ∧ (s .idleEnd .idle (.ok [])).phase = .idleEnd := by
  decide

theorem witness_AcquireAborts :
    (acquiring .abort .overflow [.ok []]).phase = .abort ∧ (acquiring .abort .overflow [.ok []]).sensor = .ok [] :: [] ∧
      (acquiring .abort .overflow [.err 5]).sensor = .err 5 :: [] := by decide

theorem witness_AcquireBusErrorGoesToAbort :
    let s := acquiring .cnth .accumulating [.err 0x20]
    ∃ t : State, s.phase.beforeFinish = true ∧ exec .acquire s = .next t ∧
      t.trace = ⟨.read 0x68 0x72, .err 0x20⟩ :: s.trace :=
  ⟨_, rfl, rfl, rfl⟩

theorem witness_AcquireBusErrorGoesToAbort_start :
    let s := acquiring .start .idle [.err 1]
    ∃ t : State, s.phase = .start ∧ exec .acquire s = .next t ∧
      t.trace = ⟨.write 0x68 0x6A 0x00, .err 1⟩ :: s.trace :=
  ⟨_, rfl, rfl, rfl⟩

theorem witness_AcquirePollsWithoutEnd :
    let s := acquiring .poll .accumulating (List.replicate 3 (.ok [0]))
    s.busy = true ∧ s.phase = .poll ∧ s.fifoCnt = 0 ∧ (0 : Byte).getLsbD s.params.B_OFLOW.val = false ∧
      (0 : Byte).getLsbD s.params.B_DRDY.val = false ∧ s.sensor = List.replicate 3 (.ok [0]) ++ [] := by decide

/-- The frame of the source's example S6. -/
def oneFrame : List Byte := [0x00, 0x64, 0xFF, 0x9C, 0x00, 0x00]

/-- An ACQUIRE of one sample that has just been accepted, before a sensor that delivers one frame. -/
def starting : State :=
  { acquiring .start .idle
      (.ok [] :: .ok [] :: .ok [] :: .ok [] :: .ok [1] :: .ok [0] :: .ok [6] ::
        (burstsOf oneFrame.length oneFrame ++ .ok [] :: [])) with nsamp := 1, nlat := 0 }

theorem starting_inv : starting.Inv := by
  constructor <;> decide

theorem witness_AcquireDeliversTheBatch :
    let s := starting
    s.Inv ∧ s.Accepted ∧ s.phase = .start ∧ s.initDone = true ∧ 1 ≤ s.nsamp.toNat ∧ s.nsamp.toNat ≤ 2048 ∧
      oneFrame.length = 6 * s.nsamp.toNat ∧ (1 : Byte).getLsbD s.params.B_OFLOW.val = false ∧
      (1 : Byte).getLsbD s.params.B_DRDY.val = true ∧
      (0 : Byte).toNat * 256 + (6 : Byte).toNat = 6 * s.nsamp.toNat ∧
      s.sensor = .ok [] :: .ok [] :: .ok [] :: .ok [] :: .ok [1] :: .ok [0] :: .ok [6] ::
        (burstsOf oneFrame.length oneFrame ++ .ok [] :: []) :=
  ⟨starting_inv, by decide⟩

theorem witness_StepKeepsTheInvariant :
    ∃ t : State, draining.Inv ∧ step draining = .next t :=
  ⟨_, draining_inv, rfl⟩

theorem witness_OneTransactionPerStep : ∃ t : State, exec .init (accepted 0x00000004 [.ok []] configured) = .next t :=
  ⟨_, rfl⟩

theorem witness_StickyBitsAreNotClearedByCommands :
    let s : State := { accepted 0 [] configured with
      cmdRejected := true, errSticky := true, cntMisaligned := true, fifoDisableFailed := true }
    ∃ t : State, exec .nop s = .next t ∧ s.cmdRejected = true ∧ s.errSticky = true ∧ s.cntMisaligned = true ∧
      s.fifoDisableFailed = true ∧ (0x004 : Offset) ≠ 0x008 :=
  ⟨_, rfl, by decide⟩

theorem witness_WritersOfSamplerStateInitDoneAndCount :
    let s := accepted 0x00806B01 [.ok []] configured
    ∃ t : State, (Instr.wrreg 0x6B 0x80 ≠ .acquire → s.phase = .none) ∧ exec (.wrreg 0x6B 0x80) s = .next t ∧
      Instr.wrreg 0x6B 0x80 ≠ .acquire ∧ Instr.wrreg 0x6B 0x80 ≠ .init ∧ Instr.wrreg 0x6B 0x80 ≠ .rdcount ∧
      Instr.wrreg 0x6B 0x80 ≠ .drain :=
  ⟨_, fun _ => rfl, rfl, by decide⟩

theorem witness_RegisterCommandFrames :
    let s := accepted 0 [.ok []] configured
    s.phase = .none ∧ (∃ t, exec .nop s = .next t) ∧ (∃ t, exec (.wrreg 0x6B 0x80) s = .next t) ∧
      (∃ t, exec .fifoOn s = .next t) ∧ (∃ t, exec .fifoOff s = .next t) ∧ (∃ t, exec .fifoReset s = .next t) ∧
      (∃ t, exec (.rdreg 0x3A) s = .next t) ∧ (∃ t, exec .rdstatus s = .next t) ∧ (∃ t, exec .rdcount s = .next t) ∧
      (∃ t, exec .init s = .next t) ∧ ∃ t, exec (.decodeFrame 6) s = .next t :=
  ⟨rfl, ⟨_, rfl⟩, ⟨_, rfl⟩, ⟨_, rfl⟩, ⟨_, rfl⟩, ⟨_, rfl⟩, ⟨_, rfl⟩, ⟨_, rfl⟩, ⟨_, rfl⟩, ⟨_, rfl⟩, ⟨_, rfl⟩⟩

theorem witness_BufferCommandFrames :
    let s := accepted 0x0000000A [.ok (List.replicate 30 7)] { configured with fifoCnt := 31 }
    let s' := accepted 0x0000000A [.err 2] { configured with fifoCnt := 31 }
    (∃ t : State, s.mem.wf = true ∧ s.phase = .none ∧ exec .drain s = .next t ∧
      t.trace = ⟨.readBlock 0x68 0x74 30, .ok (List.replicate 30 7)⟩ :: s.trace) ∧
    (∃ t : State, exec (.rdblk 0x74 30) s = .next t ∧
      t.trace = ⟨.readBlock 0x68 0x74 30, .ok (List.replicate 30 7)⟩ :: s.trace) ∧
    (∃ t : State, exec .drain s' = .next t ∧ t.trace = ⟨.readBlock 0x68 0x74 30, .err 2⟩ :: s'.trace) ∧
    ∃ t : State, exec (.rdblk 0x74 30) s' = .next t ∧ t.trace = ⟨.readBlock 0x68 0x74 30, .err 2⟩ :: s'.trace :=
  ⟨⟨_, rfl, rfl, rfl, rfl⟩, ⟨_, rfl, rfl⟩, ⟨_, rfl, rfl⟩, ⟨_, rfl, rfl⟩⟩

theorem witness_AcquireFrame :
    let s : State := { acquiring .drain .accumulating [.ok (List.replicate 30 7)] with fifoCnt := 42 }
    ∃ t : State, s.mem.wf = true ∧ s.sampCnt.toNat ≤ s.nlat.toNat ∧ exec .acquire s = .next t ∧
      s.sampCnt.toNat < t.sampCnt.toNat :=
  ⟨_, rfl, by decide, rfl, by decide⟩

/-- A complete batch, and a host about to write the last word of DATABUF. -/
def overwriting : State := { completed with host := [st32 0x05C 0xFFFFFFFF] }

theorem overwriting_inv : overwriting.Inv := by
  constructor <;> decide

theorem witness_CompletedBatchIsImmutable :
    let s := overwriting
    ∃ t : State, s.Inv ∧ s.sstate = .complete ∧ step s = .next t ∧ t.sstate = .complete ∧ 0 < s.nlat.toNat :=
  ⟨_, overwriting_inv, rfl, rfl, rfl, by decide⟩

theorem witness_OpenParametersDoNotMatter :
    ∃ t : State, step (acquiring .settle .fifoArmed []) = .next t := ⟨_, rfl⟩

theorem witness_RoundingIsHalfEven : 1 ≤ 128 ∧ 2 * 8000 = (2 * roundHalfEven 128 + 1) * 128 := by decide

theorem witness_DivisorCalculator :
    (31 : Half) ≠ 0 ∧ (31 : Half).toNat ≤ 31 ∧ 16000 ≤ (16000 : Half).toNat ∧ 5334 ≤ (5334 : Half).toNat := by decide

end Sys2Proof.Tests
end

section
/-! PROOF. The shape that the three bus primitives share, and what `xfer` makes of it: one case for an answer Ok, one
for an answer Err (00_scope.md R14, 40_bus_primitive.md R111). -/

namespace Sys2Proof.Machine

open Sys2Proof.Config

/-- A bus primitive: it answers a value that meets `Q`, or a code, and changes the sensor agent and the trace only. -/
def Transacts {α : Type} (Q : α → Prop) (t : State → Except Half α × State) : Prop :=
  ∀ s, ∃ req rest, (∃ v l, t s = (.ok v, afterTransaction req (.ok l) rest s) ∧ Q v) ∨
    ∃ c, t s = (.error c, afterTransaction req (.err c) rest s)

theorem transacts_busWrite (reg v : Byte) : Transacts (fun _ => True) (busWrite reg v) := fun s =>
  let ⟨rest, h⟩ := busWrite_cases reg v s
  ⟨_, rest, h.imp (fun e => ⟨_, _, e, trivial⟩) id⟩

theorem transacts_busRead (reg : Byte) : Transacts (fun _ => True) (busRead reg) := fun s =>
  let ⟨rest, h⟩ := busRead_cases reg s
  ⟨_, rest, h.imp (fun ⟨_, e⟩ => ⟨_, _, e, trivial⟩) id⟩

theorem transacts_busReadBlock (reg : Byte) (n : Nat) : Transacts (fun l => l.length ≤ n) (busReadBlock reg n) :=
  fun s =>
  let ⟨rest, h⟩ := busReadBlock_cases reg n s
  ⟨_, rest, h.imp (fun ⟨_, e, hl, _⟩ => ⟨_, _, e, hl⟩) id⟩

/-- The state in which the statements after a successful `xfer` run. -/
def delivered (req : BusReq) (l : List Byte) (rest : List SensorAnswer) (s : State) : State :=
  { afterTransaction req (.ok l) rest s with xcount := s.xcount + 1 }

/-- Everything `xfer` of a bus primitive can do. -/
theorem Transacts.xfer_cases {α : Type} {Q : α → Prop} {t : State → Except Half α × State} (ht : Transacts Q t)
    (k : α → State → State) (s : State) :
    ∃ req rest, (∃ v l, xfer t k s = k v (delivered req l rest s) ∧ Q v) ∨
      ∃ c, xfer t k s = busError c (afterTransaction req (.err c) rest s) := by
  obtain ⟨req, rest, ⟨v, l, e, hv⟩ | ⟨c, e⟩⟩ := ht s
  · exact ⟨req, rest, .inl ⟨v, l, xfer_of_ok e, hv⟩⟩
  · exact ⟨req, rest, .inr ⟨c, xfer_of_error e⟩⟩

/-- What one step of an ordinary command is: the error completion after an error, else what its statements do. -/
theorem ordinaryStep_cases {acts : Nat → State → State} {s t : State} (h : ordinaryStep acts s = .next t) :
    (s.failed = true ∧ t = tick (errorComplete s)) ∨ (s.failed = false ∧ t = tick (acts s.stepIx s)) := by
  cases hf : s.failed with
  | true =>
    rw [ordinaryStep_of_failed hf] at h
    cases h
    exact .inl ⟨rfl, rfl⟩
  | false =>
    rw [ordinaryStep_of_running hf] at h
    cases h
    exact .inr ⟨rfl, rfl⟩

/-! ### The deframer's accumulator and memory (42_batch_sampler.md R179, R180) -/

theorem deframe_acc_length_le (l : List Byte) (s : State) : (deframe l s).acc.length ≤ l.length := by
  refine deframe_induction (P := fun l s => (deframe l s).acc.length ≤ l.length) ?_ ?_ l s
  · rintro l s (h | h)
    · rw [deframe_short h]
    · rw [deframe_full h]
  · intro b0 b1 b2 b3 b4 b5 rest s h ih
    rw [deframe_frame h]
    exact ih.trans (by simp only [List.length_cons]; omega)

/-- While the batch is not full the deframer leaves no whole frame. -/
theorem deframe_acc_partial {l : List Byte} {s : State} (h : (deframe l s).sampCnt.toNat < s.nlat.toNat) :
    (deframe l s).acc.length < P_FRAME := by
  revert h
  refine deframe_induction (P := fun l s =>
    (deframe l s).sampCnt.toNat < s.nlat.toNat → (deframe l s).acc.length < P_FRAME) ?_ ?_ l s
  · rintro l s (h | h) hs
    · rw [deframe_short h]
      exact h
    · rw [deframe_full h] at hs
      exact absurd hs (by simpa using h)
  · intro b0 b1 b2 b3 b4 b5 rest s h ih
    rw [deframe_frame h]
    exact ih

theorem sampCnt_le_deframe {l : List Byte} {s : State} : s.sampCnt.toNat ≤ (deframe l s).sampCnt.toNat := by
  refine deframe_induction (P := fun l s => s.sampCnt.toNat ≤ (deframe l s).sampCnt.toNat) ?_ ?_ l s
  · rintro l s (h | h)
    · rw [deframe_short h]
    · rw [deframe_full h]
  · intro b0 b1 b2 b3 b4 b5 rest s h ih
    rw [deframe_frame h]
    rw [storeSample_sampCnt_toNat h] at ih
    omega

/-- The deframer lists no byte outside the storage of the window (10_state.md R46). -/
theorem deframe_onlyStorage {l : List Byte} {s : State} (hn : s.nlat.toNat ≤ P_NMAX)
    (h : ∀ c ∈ s.mem, storageOffset c.1 = true) : ∀ c ∈ (deframe l s).mem, storageOffset c.1 = true := by
  revert hn h
  refine deframe_induction (P := fun l s => s.nlat.toNat ≤ P_NMAX → (∀ c ∈ s.mem, storageOffset c.1 = true) →
    ∀ c ∈ (deframe l s).mem, storageOffset c.1 = true) ?_ ?_ l s
  · rintro l s (h | h) - hm
    · rw [deframe_short h]
      exact hm
    · rw [deframe_full h]
      exact hm
  · intro b0 b1 b2 b3 b4 b5 rest s h ih hn hm
    rw [deframe_frame h]
    refine ih hn fun c hc => ?_
    rcases Memory.mem_writeBytes hc with hc | ⟨hlo, hhi⟩
    · exact hm c hc
    · simp only [sampleAddr, samplesBase, sampleBytes, List.length_cons, List.length_nil, P_NMAX] at hlo hhi hn
      have hrange : 0x4000 ≤ c.1 ∧ c.1 < 0x8000 ∧ c.1 % 8 < 6 := by omega
      simp [storageOffset, hrange]

/-- The deframer stores only to the samples from the old SAMPCNT to below the new one. -/
theorem deframe_mem_outside {l : List Byte} {s : State} (hw : s.mem.wf = true) {a : Nat}
    (ha : ∀ k : Nat, s.sampCnt.toNat ≤ k → k < (deframe l s).sampCnt.toNat →
      a < sampleAddr k ∨ sampleAddr k + 6 ≤ a) :
    (deframe l s).mem.read a = s.mem.read a := by
  revert hw ha
  refine deframe_induction (P := fun l s => s.mem.wf = true →
    (∀ k : Nat, s.sampCnt.toNat ≤ k → k < (deframe l s).sampCnt.toNat →
      a < sampleAddr k ∨ sampleAddr k + 6 ≤ a) → (deframe l s).mem.read a = s.mem.read a) ?_ ?_ l s
  · rintro l s (h | h) - -
    · rw [deframe_short h]
    · rw [deframe_full h]
  · intro b0 b1 b2 b3 b4 b5 rest s h ih hw ha
    have hcnt := storeSample_sampCnt_toNat h (decode6 b0 b1 b2 b3 b4 b5)
    have hle := sampCnt_le_deframe (l := rest) (s := storeSample (decode6 b0 b1 b2 b3 b4 b5) s)
    rw [deframe_frame h] at ha ⊢
    calc (deframe rest (storeSample (decode6 b0 b1 b2 b3 b4 b5) s)).mem.read a
        = (storeSample (decode6 b0 b1 b2 b3 b4 b5) s).mem.read a :=
          ih (Memory.writeBytes_wf hw _ _) fun k hk => ha k (by omega)
      _ = s.mem.read a :=
          Memory.read_writeBytes_of_outside hw (ha s.sampCnt.toNat le_rfl (by omega))

end Sys2Proof.Machine
end

section
/-! PROOF. What a host reads in the window (10_state.md R23 to R46): the fields of each register's word, DATABUF's bytes
and the gate of SAMPLES. -/

namespace Sys2Proof.Machine

open Sys2Proof.Config

/-! ### STATUS and ERRINFO (10_state.md R26, R34) -/

theorem statusWord_low_bits (s : State) :
    s.statusWord.getLsbD 0 = s.busy ∧ s.statusWord.getLsbD 1 = s.done ∧ s.statusWord.getLsbD 2 = s.err ∧
      s.statusWord.getLsbD 3 = s.initDone := by
  simp only [State.statusWord, BitVec.getLsbD_append]
  simp

theorem statusWord_sticky_bits (s : State) :
    s.statusWord.getLsbD 8 = s.cmdRejected ∧ s.statusWord.getLsbD 9 = s.errSticky ∧
      s.statusWord.getLsbD 10 = s.cntMisaligned ∧ s.statusWord.getLsbD 11 = s.fifoDisableFailed := by
  simp only [State.statusWord, BitVec.getLsbD_append]
  simp

theorem statusWord_sstate (s : State) : s.statusWord.extractLsb' 4 3 = s.sstate.code := by
  unfold State.statusWord
  iterate 4 rw [BitVec.extractLsb'_append_eq_of_le (by omega)]
  rw [BitVec.extractLsb'_append_eq_of_add_le (by omega)]
  exact BitVec.extractLsb'_eq_self

theorem statusWord_lastIntStatus (s : State) : s.statusWord.extractLsb' 16 8 = s.lastIntStatus := by
  unfold State.statusWord
  iterate 11 rw [BitVec.extractLsb'_append_eq_of_le (by omega)]
  rw [BitVec.extractLsb'_append_eq_of_add_le (by omega)]
  exact BitVec.extractLsb'_eq_self

theorem errInfoWord_fields (e : ErrInfo) :
    e.word.extractLsb' 0 4 = e.kind.code ∧ e.word.extractLsb' 4 4 = e.subCause ∧
      e.word.extractLsb' 8 8 = e.errStep ∧ e.word.extractLsb' 16 16 = e.busErr := by
  simp only [ErrInfo.word, BitVec.extractLsb'_append_eq_ite]
  simp

/-! ### The other registers -/

/-- A register of one field at bit 0 (10_state.md R36 to R44). -/
theorem zeroExtend_field {n : Nat} (hn : n ≤ 32) (x : BitVec n) : (x.zeroExtend 32).extractLsb' 0 n = x :=
  (BitVec.extractLsb'_setWidth_of_le (by omega)).trans BitVec.extractLsb'_eq_self

/-- SCALE (10_state.md R39). -/
theorem scaleWord_fields (range fsCode : Byte) :
    ((0 : Half) ++ range ++ fsCode : Word).extractLsb' 0 8 = fsCode ∧
      ((0 : Half) ++ range ++ fsCode : Word).extractLsb' 8 8 = range := by
  simp only [BitVec.extractLsb'_append_eq_ite]
  simp

/-- RDATA (10_state.md R43). -/
theorem rdataWord_fields (len : BitVec 6) (b : Byte) :
    ((0 : BitVec 18) ++ len ++ b : Word).extractLsb' 0 8 = b ∧
      ((0 : BitVec 18) ++ len ++ b : Word).extractLsb' 8 6 = len := by
  simp only [BitVec.extractLsb'_append_eq_ite]
  simp

/-- DEC_XY (10_state.md R44). -/
theorem halves_fields (hi lo : Half) :
    (hi ++ lo : Word).extractLsb' 0 16 = lo ∧ (hi ++ lo : Word).extractLsb' 16 16 = hi := by
  simp only [BitVec.extractLsb'_append_eq_ite]
  simp

/-- Byte `j` of a word of the memory (20_memory.md R64). -/
theorem readWord_byte (m : Memory) (a : Nat) {j : Nat} (hj : j < 4) :
    (m.readWord a).extractLsb' (8 * j) 8 = m.read (a + j) := by
  simp only [Memory.readWord, BitVec.extractLsb'_append_eq_ite]
  interval_cases j <;> simp

/-! ### The array ranges of the window -/

theorem windowWord_databuf (s : State) {o : Nat} (hlo : 0x040 ≤ o) (hhi : o < 0x060) :
    windowWord s o = s.mem.readWord o := by
  unfold windowWord
  iterate 15 rw [if_neg (by omega)]
  rw [if_pos ⟨hlo, hhi⟩]

theorem windowWord_samples (s : State) {o : Nat} (ho : 0x4000 ≤ o) : windowWord s o = samplesWord s (o - 0x4000) := by
  unfold windowWord
  iterate 16 rw [if_neg (by omega)]
  rw [if_pos ho]

/-- The offset a host names, where it fits the window. -/
theorem toNat_offset {n : Nat} (h : n < 0x8000) : (BitVec.ofNat 15 n).toNat = n := by
  rw [BitVec.toNat_ofNat, Nat.mod_eq_of_lt h]

theorem hostRead_databuf_byte (s : State) {i j : Nat} (hi : i < 8) (hj : j < 4) :
    (hostRead (BitVec.ofNat 15 (0x040 + 4 * i)) s).extractLsb' (8 * j) 8 = s.databuf (4 * i + j) := by
  unfold hostRead
  rw [toNat_offset (by omega), windowWord_databuf s (by omega) (by omega), readWord_byte _ _ hj, State.databuf,
    Nat.add_assoc]

/-- A read of the first word of sample `k`: `{Y, X}` behind the gate (10_state.md R46). -/
theorem hostRead_sample_xy (s : State) {k : Nat} (hk : k < 2048) :
    hostRead (BitVec.ofNat 15 (0x4000 + 8 * k)) s =
      if s.sstate = .complete ∧ k < s.nlat.toNat then (s.sample k).y ++ (s.sample k).x else 0 := by
  unfold hostRead
  rw [toNat_offset (by omega), windowWord_samples s (by omega), samplesWord,
    show (0x4000 + 8 * k - 0x4000) / 8 = k by omega, if_pos (show (0x4000 + 8 * k - 0x4000) % 8 = 0 by omega)]

/-- A read of the second word of sample `k`: `{0, Z}` behind the gate (10_state.md R46). -/
theorem hostRead_sample_z (s : State) {k : Nat} (hk : k < 2048) :
    hostRead (BitVec.ofNat 15 (0x4004 + 8 * k)) s =
      if s.sstate = .complete ∧ k < s.nlat.toNat then (s.sample k).z.zeroExtend 32 else 0 := by
  unfold hostRead
  rw [toNat_offset (by omega), windowWord_samples s (by omega), samplesWord,
    show (0x4004 + 8 * k - 0x4000) / 8 = k by omega, if_neg (show ¬ (0x4004 + 8 * k - 0x4000) % 8 = 0 by omega)]

theorem hostWrite_samples (s : State) {n : Nat} (hlo : 0x4000 ≤ n) (hhi : n < 0x8000) (v : Word) :
    hostWrite (BitVec.ofNat 15 n) v s = s := by
  have ho := toNat_offset hhi
  have hguard : busyGuarded n = false := by
    simp only [busyGuarded, Bool.or_eq_false_iff, beq_eq_false_iff_ne, Bool.and_eq_false_iff, decide_eq_false_iff_not]
    omega
  unfold hostWrite
  simp only [ho, hguard, show n ≠ 0x008 by omega, if_false, Bool.false_eq_true]

theorem zeroExtend_half (x : Half) : x.zeroExtend 32 = (0 : Half) ++ x :=
  BitVec.setWidth_eq_append (by decide)

/-- Settles O16: the gate decides both reads, and the range is none that a write reaches. -/
theorem samplesWindowIsGated : Obligations.SamplesWindowIsGated := by
  intro s k hk
  rw [hostRead_sample_xy s hk, hostRead_sample_z s hk]
  refine ⟨fun hc hn => ?_, fun hshut => ?_, fun v => ?_⟩
  · rw [if_pos ⟨hc, hn⟩, if_pos ⟨hc, hn⟩]
    exact ⟨rfl, zeroExtend_half _⟩
  · have hgate : ¬ (s.sstate = .complete ∧ k < s.nlat.toNat) := fun ⟨hc, hn⟩ =>
      hshut.elim (fun h => h hc) fun h => absurd hn (by omega)
    rw [if_neg hgate, if_neg hgate]
    exact ⟨rfl, rfl⟩
  · exact ⟨hostWrite_samples s (by omega) (by omega) v, hostWrite_samples s (by omega) (by omega) v⟩

/-- Settles O15: each register's word holds its fields at the bits of 10_state.md R26 to R45. -/
theorem statusFieldsAsRead : Obligations.StatusFieldsAsRead := by
  intro s
  obtain ⟨hbusy, hdone, herr, hinit⟩ := statusWord_low_bits s
  obtain ⟨hrej, hsticky, hmis, hdis⟩ := statusWord_sticky_bits s
  obtain ⟨hcode, hsub, hstep, hbus⟩ := errInfoWord_fields s.errInfo
  obtain ⟨haddr, hrangeG⟩ := cfgDevWord_fields s.busAddr s.rangeG
  obtain ⟨hfs, hrange⟩ := scaleWord_fields s.range s.fsCode
  obtain ⟨hbyte, hlen⟩ := rdataWord_fields s.lastLen s.rdByte
  obtain ⟨hx, hy⟩ := halves_fields s.decY s.decX
  have hacc : ((hostRead 0x028 s).extractLsb' 0 6) = BitVec.ofNat 6 s.acc.length := zeroExtend_field (by decide) _
  refine ⟨hbusy, hdone, herr.trans ?_, hinit, ?_, hrej, hsticky, hmis, hdis, statusWord_lastIntStatus s, rfl, ?_, hsub,
    hstep, hbus, haddr, hrangeG, zeroExtend_field (by decide) _, zeroExtend_field (by decide) _,
    zeroExtend_field (by decide) _, hfs, hrange, zeroExtend_field (by decide) _, fun hle => ?_,
    zeroExtend_field (by decide) _, hbyte, hlen, hx, hy, zeroExtend_field (by decide) _,
    fun i j hi hj => hostRead_databuf_byte s hi hj⟩
  · exact congrArg (· != 0) hcode.symm
  · refine (congrArg BitVec.toNat (statusWord_sstate s)).trans ?_
    cases s.sstate <;> rfl
  · refine (congrArg BitVec.toNat hcode).trans ?_
    cases s.errInfo.kind <;> rfl
  · rw [hacc, BitVec.toNat_ofNat]
    omega

end Sys2Proof.Machine
end

section
/-! PROOF. What a step of each command may change (10_state.md R52), and that it clears no sticky bit (R32): one walk
through the commands that the frames and the writers of each field follow from. -/

namespace Sys2Proof.Machine

open Sys2Proof.Config

/-- The frame of a command: `s` with the control fields and the registers and memory the command may write taken from
`t`. -/
def commandFrame : Instr → State → State → State
  | .nop, s, t => withControl s t
  | .wrreg _ _, s, t => withControl s t
  | .rdreg _, s, t => { withControl s t with rdByte := t.rdByte }
  | .rdblk _ _, s, t => { withControl s t with mem := t.mem, lastLen := t.lastLen }
  | .init, s, t =>
    { withControl s t with initDone := t.initDone, divisor := t.divisor, fsCode := t.fsCode, range := t.range }
  | .fifoOn, s, t => withControl s t
  | .fifoOff, s, t => withControl s t
  | .fifoReset, s, t => withControl s t
  | .rdstatus, s, t => { withControl s t with rdByte := t.rdByte, lastIntStatus := t.lastIntStatus }
  | .rdcount, s, t =>
    { withControl s t with fifoCnt := t.fifoCnt, cntMisaligned := t.cntMisaligned, cntHigh := t.cntHigh }
  | .drain, s, t => { withControl s t with mem := t.mem, lastLen := t.lastLen, fifoCnt := t.fifoCnt }
  | .decodeFrame _, s, t => { withControl s t with decX := t.decX, decY := t.decY, decZ := t.decZ }
  | .acquire, s, t =>
    { withControl s t with
      sstate := t.sstate, lastIntStatus := t.lastIntStatus, fifoCnt := t.fifoCnt, cntMisaligned := t.cntMisaligned
      cntHigh := t.cntHigh, fifoDisableFailed := t.fifoDisableFailed, acc := t.acc, nlat := t.nlat
      sampCnt := t.sampCnt, mem := t.mem }

/-- `t` is `s` after some statements of command `i`: they stay in the command's frame and clear no sticky bit. In an
ACQUIRE phase, which no other command has, an error may end the cycle, so SSTATE is held outside a cycle only. -/
structure Within (i : Instr) (s t : State) : Prop where
  frame : t = { commandFrame i s t with sstate := t.sstate }
  outside : i ≠ .acquire → s.phase.inCycle = false → t.sstate = s.sstate ∧ t.phase.inCycle = false
  errSticky : s.errSticky = true → t.errSticky = true
  cntMisaligned : s.cntMisaligned = true → t.cntMisaligned = true
  fifoDisableFailed : s.fifoDisableFailed = true → t.fifoDisableFailed = true

theorem Within.refl (i : Instr) (s : State) : Within i s s where
  frame := by cases i <;> rfl
  outside _ h := ⟨rfl, h⟩
  errSticky := id
  cntMisaligned := id
  fifoDisableFailed := id

theorem Within.trans {i : Instr} {s u t : State} (h : Within i s u) (h' : Within i u t) : Within i s t where
  frame := calc
    t = { commandFrame i u t with sstate := t.sstate } := h'.frame
    _ = { commandFrame i { commandFrame i s u with sstate := u.sstate } t with sstate := t.sstate } := by
      rw [← h.frame]
    _ = { commandFrame i s t with sstate := t.sstate } := by cases i <;> rfl
  outside hi ho :=
    have ⟨hx, hp⟩ := h.outside hi ho
    have ⟨hx', hp'⟩ := h'.outside hi hp
    ⟨hx'.trans hx, hp'⟩
  errSticky := h'.errSticky ∘ h.errSticky
  cntMisaligned := h'.cntMisaligned ∘ h.cntMisaligned
  fifoDisableFailed := h'.fifoDisableFailed ∘ h.fifoDisableFailed

/-- An update in the command's frame that leaves SSTATE, the phase and the sticky bits as they are. -/
theorem within_of_frame {i : Instr} {s t : State} (hf : t = { commandFrame i s t with sstate := t.sstate })
    (hx : t.sstate = s.sstate) (hp : t.phase = s.phase) (he : t.errSticky = s.errSticky)
    (hm : s.cntMisaligned = true → t.cntMisaligned = true) (hd : t.fifoDisableFailed = s.fifoDisableFailed) :
    Within i s t :=
  ⟨hf, fun _ h => ⟨hx, by rw [hp]; exact h⟩, fun h => by rw [he]; exact h, hm, fun h => by rw [hd]; exact h⟩

/-! ### The shared operations stay in every command's frame -/

theorem within_tick (i : Instr) (s : State) : Within i s (tick s) :=
  within_of_frame (by cases i <;> rfl) rfl rfl rfl id rfl

theorem within_complete (i : Instr) (s : State) : Within i s (complete s) where
  frame := by cases i <;> rfl
  outside _ _ := ⟨rfl, rfl⟩
  errSticky := id
  cntMisaligned := id
  fifoDisableFailed := id

theorem within_errorComplete (i : Instr) (s : State) : Within i s (errorComplete s) := within_complete i s

theorem within_afterTransaction (i : Instr) (req : BusReq) (ans : SensorAnswer) (rest : List SensorAnswer)
    (s : State) : Within i s (afterTransaction req ans rest s) :=
  within_of_frame (by cases i <;> rfl) rfl rfl rfl id rfl

theorem within_delivered (i : Instr) (req : BusReq) (l : List Byte) (rest : List SensorAnswer) (s : State) :
    Within i s (delivered req l rest s) :=
  within_of_frame (by cases i <;> rfl) rfl rfl rfl id rfl

theorem within_raise (i : Instr) (kind : ErrKind) (sub : BitVec 4) (stp : Byte) (code : Half) (s : State) :
    Within i s (raise kind sub stp code s) where
  frame := by rw [raise_touches]; cases i <;> rfl
  outside _ h := by rw [raise_of_outside h]; exact ⟨rfl, h⟩
  errSticky _ := raise_errSticky kind sub stp code s
  cntMisaligned := by rw [raise_touches]; exact id
  fifoDisableFailed := by rw [raise_touches]; exact id

theorem within_failAtOnce (i : Instr) (kind : ErrKind) (sub : BitVec 4) (s : State) :
    Within i s (failAtOnce kind sub s) :=
  (within_raise i kind sub 0 0 s).trans (within_errorComplete i _)

theorem within_xfer {α : Type} {Q : α → Prop} {t : State → Except Half α × State} (ht : Transacts Q t) {i : Instr}
    {k : α → State → State} {s : State} (hk : ∀ v u, Within i u (k v u)) : Within i s (xfer t k s) := by
  obtain ⟨req, rest, ⟨v, l, e, -⟩ | ⟨c, e⟩⟩ := ht.xfer_cases k s <;> rw [e]
  · exact (within_delivered i req l rest s).trans (hk v _)
  · exact (within_afterTransaction i req (.err c) rest s).trans (within_raise i .bus 0 _ c _)

/-- A write with no statement after it. -/
theorem within_write (i : Instr) (reg v : Byte) (s : State) : Within i s (xfer (busWrite reg v) (fun _ s => s) s) :=
  within_xfer (transacts_busWrite reg v) fun _ u => .refl i u

theorem within_ordinaryStep {i : Instr} {acts : Nat → State → State} {s t : State}
    (hacts : ∀ n u, Within i u (acts n u)) (h : ordinaryStep acts s = .next t) : Within i s t := by
  rcases ordinaryStep_cases h with ⟨-, rfl⟩ | ⟨-, rfl⟩
  · exact (within_errorComplete i s).trans (within_tick i _)
  · exact (hacts s.stepIx s).trans (within_tick i _)

/-! ### The updates of single commands -/

theorem setCount_keeps_misaligned {high low : Byte} {s : State} (h : s.cntMisaligned = true) :
    (setCount high low s).cntMisaligned = true := by
  simp [h]

theorem within_initStart (s : State) : Within .init s (initStart s) := by
  unfold initStart
  split
  · exact within_failAtOnce _ _ _ _
  · split
    · exact within_failAtOnce _ _ _ _
    · exact Within.trans (u := { s with initDone := false }) (within_of_frame rfl rfl rfl rfl id rfl)
        (within_write _ _ _ _)

/-- A step of ACQUIRE in its frame: SSTATE is in it, so only the sticky bits are left to show. -/
theorem within_acquire {s t : State} (hf : t = commandFrame .acquire s t) (he : s.errSticky = true → t.errSticky = true)
    (hm : s.cntMisaligned = true → t.cntMisaligned = true)
    (hd : s.fifoDisableFailed = true → t.fifoDisableFailed = true) : Within .acquire s t :=
  ⟨hf, fun hi => absurd rfl hi, he, hm, hd⟩

theorem within_acqArm0 (s : State) : Within .acquire s (acqArm0 s) :=
  within_xfer (transacts_busWrite _ _) fun _ _ => within_acquire rfl id id id

theorem within_acqStart (s : State) : Within .acquire s (acqStart s) := by
  unfold acqStart
  split
  · exact within_failAtOnce _ _ _ _
  · split
    · exact within_failAtOnce _ _ _ _
    · exact Within.trans (u := startCycle s) (within_acquire rfl id id id) (within_acqArm0 _)

theorem within_acqOnStatus (b : Byte) (s : State) : Within .acquire s (acqOnStatus b s) := by
  unfold acqOnStatus
  dsimp only
  split
  · exact Within.trans (u := { s with lastIntStatus := b, sstate := .overflow }) (within_acquire rfl id id id)
      (within_raise _ _ _ _ _ _)
  · split <;> exact within_acquire rfl id id id

theorem within_deframe (l : List Byte) (s : State) : Within .acquire s (deframe l s) := by
  rw [deframe_touches]
  exact within_acquire rfl id id id

theorem within_acqOnBytes (l : List Byte) (s : State) : Within .acquire s (acqOnBytes l s) :=
  (within_deframe (s.acc ++ l) s).trans (within_acquire rfl id id id)

theorem within_acqDrain (s : State) : Within .acquire s (acqDrain s) := by
  unfold acqDrain drainXfer
  exact within_xfer (transacts_busReadBlock _ _) fun l u =>
    Within.trans (u := { u with fifoCnt := u.fifoCnt - BitVec.ofNat 16 l.length }) (within_acquire rfl id id id)
      (within_acqOnBytes l _)

theorem within_acqIterate (s : State) : Within .acquire s (acqIterate s) := by
  unfold acqIterate
  split
  · exact within_xfer (transacts_busRead _) within_acqOnStatus
  · exact within_acqDrain s

theorem within_acqAbort (s : State) : Within .acquire s (acqAbort s) := by
  obtain ⟨rest, e | ⟨c, e⟩⟩ := busWrite_cases s.params.A_FIFO_EN s.params.V_FIFO_EN_OFF s <;>
    simp only [acqAbort, e]
  · exact within_acquire rfl id id id
  · exact within_acquire rfl id id fun _ => rfl

theorem within_acqPhaseStep (p : Phase) (s : State) : Within .acquire s (acqPhaseStep p s) := by
  cases p with
  | none => exact within_acqStart s
  | start => exact within_acqStart s
  | arm0 => exact within_acqArm0 s
  | arm1 =>
    unfold acqPhaseStep acqArm1
    exact within_xfer (transacts_busWrite _ _) fun _ _ => within_acquire rfl id id id
  | arm2 =>
    unfold acqPhaseStep acqArm2
    exact within_xfer (transacts_busWrite _ _) fun _ _ => within_acquire rfl id id id
  | arm3 =>
    unfold acqPhaseStep acqArm3
    exact within_xfer (transacts_busWrite _ _) fun _ _ => within_acquire rfl id id id
  | settle => exact within_acquire rfl id id id
  | poll => exact within_acqIterate s
  | cnth =>
    unfold acqPhaseStep acqCountHigh
    exact within_xfer (transacts_busRead _) fun _ _ => within_acquire rfl id id id
  | cntl =>
    unfold acqPhaseStep acqCountLow
    exact within_xfer (transacts_busRead _) fun _ _ => within_acquire rfl id setCount_keeps_misaligned id
  | drain => exact within_acqIterate s
  | finish =>
    unfold acqPhaseStep acqFinish
    exact within_xfer (transacts_busWrite _ _) fun _ _ => within_acquire rfl id id id
  | doneComplete => exact within_complete _ s
  | abort => exact within_acqAbort s
  | idleEnd => exact within_errorComplete _ s

theorem within_execWrreg (reg data : Byte) {s t : State} :
    execWrreg reg data s = .next t → Within (.wrreg reg data) s t :=
  within_ordinaryStep fun n u => by
    split
    · exact within_write _ _ _ _
    · exact within_complete _ _

theorem within_execRdreg (reg : Byte) {s t : State} : execRdreg reg s = .next t → Within (.rdreg reg) s t :=
  within_ordinaryStep fun n u => by
    split
    · exact within_xfer (transacts_busRead _) fun _ _ => within_of_frame rfl rfl rfl rfl id rfl
    · exact within_complete _ _

theorem within_execRdblk (reg len : Byte) {s t : State} :
    execRdblk reg len s = .next t → Within (.rdblk reg len) s t :=
  within_ordinaryStep fun n u => by
    split
    · split
      · exact within_xfer (transacts_busReadBlock _ _) fun _ _ => within_of_frame rfl rfl rfl rfl id rfl
      · exact within_failAtOnce _ _ _ _
    · exact within_complete _ _

theorem within_execInit {s t : State} : execInit s = .next t → Within .init s t :=
  within_ordinaryStep fun n u => by
    split
    · exact within_initStart u
    · exact .refl _ _
    · exact within_xfer (transacts_busWrite _ _) fun _ _ => within_of_frame rfl rfl rfl rfl id rfl
    · exact within_xfer (transacts_busWrite _ _) fun _ _ => within_of_frame rfl rfl rfl rfl id rfl
    · exact within_write _ _ _ _
    · exact within_xfer (transacts_busWrite _ _) fun _ _ => within_of_frame rfl rfl rfl rfl id rfl
    · exact within_complete _ _

theorem within_execFifoOn {s t : State} : execFifoOn s = .next t → Within .fifoOn s t :=
  within_ordinaryStep fun n u => by
    split
    · exact within_write _ _ _ _
    · exact within_write _ _ _ _
    · exact within_write _ _ _ _
    · exact within_write _ _ _ _
    · exact within_complete _ _

theorem within_execFifoOff {s t : State} : execFifoOff s = .next t → Within .fifoOff s t :=
  within_ordinaryStep fun n u => by
    split
    · exact within_write _ _ _ _
    · exact within_complete _ _

theorem within_execFifoReset {s t : State} : execFifoReset s = .next t → Within .fifoReset s t :=
  within_ordinaryStep fun n u => by
    split
    · exact within_write _ _ _ _
    · exact within_write _ _ _ _
    · exact within_write _ _ _ _
    · exact within_complete _ _

theorem within_execRdstatus {s t : State} : execRdstatus s = .next t → Within .rdstatus s t :=
  within_ordinaryStep fun n u => by
    split
    · exact within_xfer (transacts_busRead _) fun _ _ => within_of_frame rfl rfl rfl rfl id rfl
    · exact within_complete _ _

theorem within_execRdcount {s t : State} : execRdcount s = .next t → Within .rdcount s t :=
  within_ordinaryStep fun n u => by
    split
    · exact within_xfer (transacts_busRead _) fun _ _ => within_of_frame rfl rfl rfl rfl id rfl
    · exact within_xfer (transacts_busRead _) fun _ _ =>
        within_of_frame rfl rfl rfl rfl setCount_keeps_misaligned rfl
    · exact within_complete _ _

theorem within_execDrain {s t : State} : execDrain s = .next t → Within .drain s t :=
  within_ordinaryStep fun n u => by
    split
    · split
      · exact Within.trans (u := { u with lastLen := 0 }) (within_of_frame rfl rfl rfl rfl id rfl)
          (within_complete _ _)
      · exact within_xfer (transacts_busReadBlock _ _) fun _ _ => within_of_frame rfl rfl rfl rfl id rfl
    · exact within_complete _ _

theorem within_execDecodeFrame (len : Byte) {s t : State} :
    execDecodeFrame len s = .next t → Within (.decodeFrame len) s t :=
  within_ordinaryStep fun n u => by
    split
    · split
      · exact Within.trans
          (u := { u with decX := (databufFrame u).x, decY := (databufFrame u).y, decZ := (databufFrame u).z })
          (within_of_frame rfl rfl rfl rfl id rfl) (within_complete _ _)
      · exact within_failAtOnce _ _ _ _
    · exact within_complete _ _

/-- Every step of a command stays in the command's frame and clears no sticky bit. -/
theorem exec_within {i : Instr} {s t : State} (h : exec i s = .next t) : Within i s t := by
  cases i with
  | nop => exact within_ordinaryStep (fun _ => within_complete _) h
  | wrreg reg data => exact within_execWrreg _ _ h
  | rdreg reg => exact within_execRdreg _ h
  | rdblk reg len => exact within_execRdblk _ _ h
  | init => exact within_execInit h
  | fifoOn => exact within_execFifoOn h
  | fifoOff => exact within_execFifoOff h
  | fifoReset => exact within_execFifoReset h
  | rdstatus => exact within_execRdstatus h
  | rdcount => exact within_execRdcount h
  | drain => exact within_execDrain h
  | decodeFrame len => exact within_execDecodeFrame _ h
  | acquire =>
    obtain rfl : tick (acqPhaseStep s.phase s) = t := by cases h; rfl
    exact (within_acqPhaseStep s.phase s).trans (within_tick _ _)

/-- No step writes the command word (10_state.md R25). -/
theorem Within.cmd_eq {i : Instr} {s t : State} (h : Within i s t) : t.cmd = s.cmd := by
  rw [h.frame]
  cases i <;> rfl

/-- The frame itself: with no phase outside ACQUIRE, SSTATE is in it. -/
theorem Within.eq_commandFrame {i : Instr} {s t : State} (h : Within i s t) (hp : i ≠ .acquire → s.phase = .none) :
    t = commandFrame i s t := by
  by_cases hi : i = .acquire
  · subst hi
    exact h.frame
  · have hx : t.sstate = (commandFrame i s t).sstate := by
      refine (h.outside hi (by rw [hp hi]; rfl)).1.trans ?_
      cases i <;> first | rfl | exact absurd rfl hi
    calc t = { commandFrame i s t with sstate := t.sstate } := h.frame
      _ = { commandFrame i s t with sstate := (commandFrame i s t).sstate } := by rw [← hx]
      _ = commandFrame i s t := rfl

theorem exec_eq_commandFrame {i : Instr} {s t : State} (hp : i ≠ .acquire → s.phase = .none)
    (h : exec i s = .next t) : t = commandFrame i s t :=
  (exec_within h).eq_commandFrame hp

end Sys2Proof.Machine
end

section
/-! PROOF. The statements on sticky bits, on the writers of each field and on frames (10_state.md R32, R52). -/

namespace Sys2Proof.Machine

open Sys2Proof.Config

/-- Settles O50: a command's step stays within what `Within` says, and a host write but one to STATUS only sets
CMD_REJECTED. -/
theorem stickyBitsAreNotClearedByCommands : Obligations.StickyBitsAreNotClearedByCommands := by
  refine ⟨fun i s t h => ?_, fun off v s hoff => ?_⟩
  · have hw := exec_within h
    have hrej : t.cmdRejected = s.cmdRejected := by rw [hw.frame]; cases i <;> rfl
    exact ⟨fun e => hrej.trans e, hw.errSticky, hw.cntMisaligned, hw.fifoDisableFailed⟩
  · rcases hostWrite_cases off v s with
      ⟨h8, -⟩ | ⟨-, -, e⟩ | ⟨-, ⟨-, e⟩ | ⟨-, e⟩ | ⟨-, e⟩ | ⟨-, e⟩ | ⟨-, -, e⟩⟩ | e
    · exact absurd (BitVec.eq_of_toNat_eq h8) hoff
    · rw [e]
      exact ⟨fun _ => rfl, rfl, rfl, rfl⟩
    all_goals
      rw [e]
      exact ⟨id, rfl, rfl, rfl⟩

/-- The fields outside the frames of the commands other than ACQUIRE. -/
theorem commandFrame_sampler {i : Instr} (hi : i ≠ .acquire) (s t : State) :
    (commandFrame i s t).sstate = s.sstate ∧ (commandFrame i s t).nlat = s.nlat ∧
      (commandFrame i s t).sampCnt = s.sampCnt ∧ (commandFrame i s t).acc = s.acc := by
  cases i with
  | acquire => exact absurd rfl hi
  | _ => exact ⟨rfl, rfl, rfl, rfl⟩

theorem commandFrame_initDone {i : Instr} (hi : i ≠ .init) (s t : State) :
    (commandFrame i s t).initDone = s.initDone := by
  cases i with
  | init => exact absurd rfl hi
  | _ => rfl

theorem commandFrame_fifoCnt {i : Instr} (hc : i ≠ .rdcount) (hd : i ≠ .drain) (ha : i ≠ .acquire) (s t : State) :
    (commandFrame i s t).fifoCnt = s.fifoCnt := by
  cases i with
  | rdcount => exact absurd rfl hc
  | drain => exact absurd rfl hd
  | acquire => exact absurd rfl ha
  | _ => rfl

/-- Settles O51: each field is outside the frames of the other commands and outside what a host write changes. -/
theorem writersOfSamplerStateInitDoneAndCount : Obligations.WritersOfSamplerStateInitDoneAndCount := by
  refine ⟨fun i s t hp h => ?_, fun off v s => ?_⟩
  · rw [exec_eq_commandFrame hp h]
    exact ⟨fun hi => commandFrame_sampler hi s t, fun hi => commandFrame_initDone hi s t,
      fun hc hd ha => commandFrame_fifoCnt hc hd ha s t⟩
  · rcases hostWrite_cases off v s with
      ⟨-, e⟩ | ⟨-, -, e⟩ | ⟨-, ⟨-, e⟩ | ⟨-, e⟩ | ⟨-, e⟩ | ⟨-, e⟩ | ⟨-, -, e⟩⟩ | e <;> rw [e]
    all_goals exact ⟨rfl, rfl, rfl⟩

/-- Settles O52: each clause is the command's frame. -/
theorem registerCommandFrames : Obligations.RegisterCommandFrames := fun s t hp =>
  have hframe {i : Instr} (h : exec i s = .next t) : t = commandFrame i s t := exec_eq_commandFrame (fun _ => hp) h
  ⟨hframe, fun _ _ => hframe, hframe, hframe, hframe, fun _ => hframe, hframe, hframe, hframe, fun _ => hframe⟩

/-! ### The bytes that RDBLK and DRAIN store (10_state.md R45) -/

/-- A step that stores the bytes of a successful block read from `databuf[0]` on, or makes no successful transaction and
leaves the memory and `field` alone. -/
def StoresBlock {α : Type} (field : State → α) (s t : State) : Prop :=
  (∃ req l, t.trace = ⟨req, .ok l⟩ :: s.trace ∧ t.mem = s.mem.writeBytes databufBase l) ∨
    ((∀ req l, t.trace ≠ ⟨req, .ok l⟩ :: s.trace) ∧ t.mem = s.mem ∧ field t = field s)

/-- What such a step leaves unchanged. -/
theorem StoresBlock.unchanged {α : Type} {field : State → α} {s t : State} (h : StoresBlock field s t)
    (hw : s.mem.wf = true) :
    (∀ req l, t.trace = ⟨req, .ok l⟩ :: s.trace →
      ∀ a : Nat, a < databufBase ∨ databufBase + l.length ≤ a → t.mem.read a = s.mem.read a) ∧
    ((∀ req l, t.trace ≠ ⟨req, .ok l⟩ :: s.trace) → t.mem = s.mem ∧ field t = field s) := by
  rcases h with ⟨req, l, htr, hmem⟩ | ⟨htr, hmem, hfield⟩
  · refine ⟨fun req' l' htr' a ha => ?_, fun hno => absurd htr (hno req l)⟩
    obtain rfl : l = l' := by
      rw [htr] at htr'
      injection htr' with hx
      injection hx with _ hans
      injection hans
    rw [hmem]
    exact Memory.read_writeBytes_of_outside hw ha
  · exact ⟨fun req l htr' => absurd htr' (htr req l), fun _ => ⟨hmem, hfield⟩⟩

/-- A step without a transaction stores no block. -/
theorem StoresBlock.of_no_transaction {α : Type} {field : State → α} {s t : State} (htr : t.trace = s.trace)
    (hmem : t.mem = s.mem) (hfield : field t = field s) : StoresBlock field s t :=
  .inr ⟨fun _ _ e => List.cons_ne_self _ _ (e.symm.trans htr), hmem, hfield⟩

@[simp] theorem busError_mem (c : Half) (s : State) : (busError c s).mem = s.mem := by
  rw [busError, raise_touches]

@[simp] theorem busError_trace (c : Half) (s : State) : (busError c s).trace = s.trace := by
  rw [busError, raise_touches]

@[simp] theorem busError_lastLen (c : Half) (s : State) : (busError c s).lastLen = s.lastLen := by
  rw [busError, raise_touches]

@[simp] theorem busError_fifoCnt (c : Half) (s : State) : (busError c s).fifoCnt = s.fifoCnt := by
  rw [busError, raise_touches]

/-- A block read through `xfer`: on Ok the statements after it store the bytes, on Err nothing is stored. -/
theorem storesBlock_xfer {α : Type} {field : State → α} {reg : Byte} {n : Nat} {k : List Byte → State → State}
    {s : State} (hk : ∀ l u, (k l u).trace = u.trace ∧ (k l u).mem = u.mem.writeBytes databufBase l)
    (hfield : ∀ c req rest, field (tick (busError c (afterTransaction req (.err c) rest s))) = field s) :
    StoresBlock field s (tick (xfer (busReadBlock reg n) k s)) := by
  obtain ⟨rest, ⟨l, e, -⟩ | ⟨c, e⟩⟩ := xfer_busReadBlock_cases reg n k s <;> rw [e]
  · obtain ⟨htr, hmem⟩ := hk l { afterTransaction (.readBlock s.dev reg n) (.ok l) rest s with xcount := s.xcount + 1 }
    exact .inl ⟨.readBlock s.dev reg n, l, htr, hmem⟩
  · have htr : (tick (busError c (afterTransaction (.readBlock s.dev reg n) (.err c) rest s))).trace =
        ⟨.readBlock s.dev reg n, .err c⟩ :: s.trace := busError_trace c _
    refine .inr ⟨fun req l h => ?_, busError_mem c _, hfield c _ _⟩
    rw [htr] at h
    injection h with hx
    injection hx with _ hans
    cases hans

theorem storesBlock_rdblk {reg len : Byte} {s t : State} (hp : s.phase = .none)
    (h : execRdblk reg len s = .next t) : StoresBlock State.lastLen s t := by
  rcases ordinaryStep_cases h with ⟨-, rfl⟩ | ⟨-, rfl⟩
  · exact .of_no_transaction rfl rfl rfl
  · split
    · split
      · exact storesBlock_xfer (fun _ _ => ⟨rfl, rfl⟩) fun c _ _ => busError_lastLen c _
      · rw [failAtOnce_of_outside (by rw [hp]; rfl)]
        exact .of_no_transaction rfl rfl rfl
    · exact .of_no_transaction rfl rfl rfl

theorem storesBlock_drain {s t : State} (h : execDrain s = .next t) : StoresBlock State.fifoCnt s t := by
  rcases ordinaryStep_cases h with ⟨-, rfl⟩ | ⟨-, rfl⟩
  · exact .of_no_transaction rfl rfl rfl
  · split
    · split
      · exact .of_no_transaction rfl rfl rfl
      · exact storesBlock_xfer (fun _ _ => ⟨rfl, rfl⟩) fun c _ _ => busError_fifoCnt c _
    · exact .of_no_transaction rfl rfl rfl

/-- Settles O53: the frame of each command, and that its step stores one block or nothing. -/
theorem bufferCommandFrames : Obligations.BufferCommandFrames := fun _ _ hw hp =>
  ⟨fun _ _ h => ⟨exec_eq_commandFrame (fun _ => hp) h, (storesBlock_rdblk hp h).unchanged hw⟩,
    fun h => ⟨exec_eq_commandFrame (fun _ => hp) h, (storesBlock_drain h).unchanged hw⟩⟩

/-! ### The bytes that ACQUIRE stores (42_batch_sampler.md R178, R179) -/

theorem xfer_mem {α : Type} {Q : α → Prop} {t : State → Except Half α × State} (ht : Transacts Q t)
    {k : α → State → State} (hk : ∀ v u, (k v u).mem = u.mem) (s : State) : (xfer t k s).mem = s.mem := by
  obtain ⟨req, rest, ⟨v, l, e, -⟩ | ⟨c, e⟩⟩ := ht.xfer_cases k s <;> rw [e]
  · exact hk v _
  · exact busError_mem c _

theorem failAtOnce_mem (kind : ErrKind) (sub : BitVec 4) (s : State) : (failAtOnce kind sub s).mem = s.mem := by
  rw [failAtOnce, raise_touches]
  rfl

theorem acqStart_mem (s : State) : (acqStart s).mem = s.mem := by
  unfold acqStart
  split
  · exact failAtOnce_mem _ _ s
  · split
    · exact failAtOnce_mem _ _ s
    · exact xfer_mem (transacts_busWrite _ _) (by intros; rfl) (startCycle s)

theorem acqOnStatus_mem (b : Byte) (s : State) : (acqOnStatus b s).mem = s.mem := by
  unfold acqOnStatus
  dsimp only
  split
  · rw [raise_touches]
  · split <;> rfl

theorem acqAbort_mem (s : State) : (acqAbort s).mem = s.mem := by
  obtain ⟨rest, e | ⟨c, e⟩⟩ := busWrite_cases s.params.A_FIFO_EN s.params.V_FIFO_EN_OFF s <;>
    simp only [acqAbort, e] <;> rfl

/-- A drain stores what the deframer stores. -/
theorem acqDrain_mem_outside {s : State} (hw : s.mem.wf = true) {a : Nat}
    (ha : ∀ k : Nat, s.sampCnt.toNat ≤ k → k < (acqDrain s).sampCnt.toNat →
      a < sampleAddr k ∨ sampleAddr k + 6 ≤ a) :
    (acqDrain s).mem.read a = s.mem.read a := by
  unfold acqDrain drainXfer at ha ⊢
  obtain ⟨req, rest, ⟨l, _, e, -⟩ | ⟨c, e⟩⟩ := (transacts_busReadBlock s.params.A_FIFO_R_W (drainLength s)).xfer_cases
    (fun l s1 => acqOnBytes l { s1 with fifoCnt := s1.fifoCnt - BitVec.ofNat 16 l.length }) s
  · rw [e] at ha ⊢
    exact deframe_mem_outside (s := { delivered req _ rest s with fifoCnt := s.fifoCnt - BitVec.ofNat 16 l.length })
      hw ha
  · rw [e, busError_mem]
    rfl

theorem acqIterate_mem_outside {s : State} (hw : s.mem.wf = true) {a : Nat}
    (ha : ∀ k : Nat, s.sampCnt.toNat ≤ k → k < (acqIterate s).sampCnt.toNat →
      a < sampleAddr k ∨ sampleAddr k + 6 ≤ a) :
    (acqIterate s).mem.read a = s.mem.read a := by
  unfold acqIterate at ha ⊢
  split at ha
  · next h0 =>
    rw [if_pos h0]
    exact congrArg (Memory.read · a) (xfer_mem (transacts_busRead _) acqOnStatus_mem s)
  · next h0 =>
    rw [if_neg h0]
    exact acqDrain_mem_outside hw ha

/-- A step of ACQUIRE stores only to the samples from the old SAMPCNT to below the new one: the drain does, and the
other phases store nothing. -/
theorem acqPhaseStep_mem_outside {p : Phase} {s : State} (hw : s.mem.wf = true) {a : Nat}
    (ha : ∀ k : Nat, s.sampCnt.toNat ≤ k → k < (acqPhaseStep p s).sampCnt.toNat →
      a < sampleAddr k ∨ sampleAddr k + 6 ≤ a) :
    (acqPhaseStep p s).mem.read a = s.mem.read a := by
  cases p with
  | poll => exact acqIterate_mem_outside hw ha
  | drain => exact acqIterate_mem_outside hw ha
  | none => exact congrArg (Memory.read · a) (acqStart_mem s)
  | start => exact congrArg (Memory.read · a) (acqStart_mem s)
  | abort => exact congrArg (Memory.read · a) (acqAbort_mem s)
  | settle | doneComplete | idleEnd => rfl
  | cnth | cntl => exact congrArg (Memory.read · a) (xfer_mem (transacts_busRead _) (by intros; rfl) s)
  | arm0 | arm1 | arm2 | arm3 | finish =>
    exact congrArg (Memory.read · a) (xfer_mem (transacts_busWrite _ _) (by intros; rfl) s)

/-- Settles O54: the frame of ACQUIRE, and what the deframer stores. -/
theorem acquireFrame : Obligations.AcquireFrame := fun s _ hw _ h =>
  ⟨exec_eq_commandFrame (fun ha => absurd rfl ha) h, fun a ha => by
    cases h
    exact acqPhaseStep_mem_outside (p := s.phase) hw ha⟩

end Sys2Proof.Machine
end

section
/-! PROOF. The invariant (10_state.md R48): what the shared operations keep, then the ordinary commands and INIT. -/

namespace Sys2Proof.Machine

open Sys2Proof.Config

/-! ### Phases (42_batch_sampler.md R181) -/

/-- What SSTATE may be outside a cycle, it may be with no command running. -/
theorem Phase.none_admits_of_outside {p : Phase} {x : SState} (hp : p.inCycle = false) (h : p.admits x = true) :
    Phase.none.admits x = true := by
  revert hp h
  cases p <;> cases x <;> decide

/-- The abort can follow every phase of a cycle. -/
theorem Phase.abort_admits_of_inCycle {p : Phase} {x : SState} (hp : p.inCycle = true) (h : p.admits x = true) :
    Phase.abort.admits x = true := by
  revert hp h
  cases p <;> cases x <;> decide

theorem Phase.ne_none_of_inCycle {p : Phase} (h : p.inCycle = true) : p ≠ .none := by
  rintro rfl
  cases h

/-- Only a cycle that has failed or ended lacks a next phase of its own. -/
theorem State.Inv.not_failed {s : State} (h : s.Inv) (hn : s.phase ≠ .none) (ha : s.phase ≠ .abort)
    (hi : s.phase ≠ .idleEnd) : s.failed = false := by
  by_contra hf
  rcases h.failedCycle (by simpa using hf) with e | e | e
  · exact hn e
  · exact ha e
  · exact hi e

theorem State.Inv.decode_of_phase {s : State} (h : s.Inv) (hn : s.phase ≠ .none) : decode s.cmd = .ok .acquire :=
  (h.phaseRuns hn).2

/-- A command other than ACQUIRE runs with no phase. -/
theorem State.Inv.phase_eq_none {s : State} (h : s.Inv) (hd : decode s.cmd ≠ .ok .acquire) : s.phase = .none := by
  by_contra hn
  exact hd (h.decode_of_phase hn)

/-! ### The shared operations -/

/-- A step counts itself: only INIT's clauses read the step index. -/
theorem inv_tick {s : State} (h : s.Inv)
    (hv : s.busy = true → decode s.cmd = .ok .init → s.failed = false → legalRange s.rangeG = true ∧ s.targetRate ≠ 0)
    (hs : s.busy = true → decode s.cmd = .ok .init → s.failed = false → 3 ≤ s.stepIx → s.range ≠ 0) :
    (tick s).Inv :=
  { h with
    initValidated := fun hb hd _ hf => hv hb hd hf
    initScaled := fun hb hd hi hf => hs hb hd hf (Nat.le_of_succ_le_succ hi) }

theorem inv_tick_of_not_init {s : State} (h : s.Inv) (hd : decode s.cmd ≠ .ok .init) : (tick s).Inv :=
  inv_tick h (fun _ e => absurd e hd) fun _ e => absurd e hd

theorem inv_afterTransaction {s : State} (h : s.Inv) (req : BusReq) (ans : SensorAnswer)
    (rest : List SensorAnswer) : (afterTransaction req ans rest s).Inv := { h with }

theorem inv_delivered {s : State} (h : s.Inv) (req : BusReq) (l : List Byte) (rest : List SensorAnswer) :
    (delivered req l rest s).Inv := { h with }

/-- Outside a cycle a completion keeps the invariant, whatever it records in ERRINFO (43_control.md R203,
60_exceptions.md R213). -/
theorem inv_ended {s : State} (h : s.Inv) (ho : s.phase.inCycle = false) (e : ErrInfo)
    (he : e.kind = .none → e = .zero) :
    ({ s with errInfo := e, busy := false, done := true, phase := .none } : State).Inv :=
  { h with
    busyNotDone := nofun
    phaseRuns := fun hn => absurd rfl hn
    acquireHasPhase := nofun
    phaseAdmits := Phase.none_admits_of_outside ho h.phaseAdmits
    cycleNonempty := nofun
    accPartial := nofun
    finishFull := nofun
    initValidated := nofun
    initScaled := nofun
    noErrorIsZero := fun hf => he ((State.failed_eq_false_iff _).1 hf)
    failedCycle := fun _ => .inl rfl }

theorem inv_complete {s : State} (h : s.Inv) (ho : s.phase.inCycle = false) : (complete s).Inv :=
  { inv_ended h ho s.errInfo fun hk => h.noErrorIsZero ((State.failed_eq_false_iff s).2 hk) with }

theorem inv_errorComplete {s : State} (h : s.Inv) (ho : s.phase.inCycle = false) : (errorComplete s).Inv :=
  { inv_complete h ho with }

theorem inv_failAtOnce {s : State} (h : s.Inv) (ho : s.phase.inCycle = false) {kind : ErrKind}
    (hk : kind ≠ .none) (sub : BitVec 4) : (failAtOnce kind sub s).Inv := by
  rw [failAtOnce_of_outside ho]
  exact { inv_ended h ho ⟨kind, sub, 0, 0⟩ fun e => absurd e hk with }

theorem failed_of_kind {s : State} (h : s.errInfo.kind ≠ .none) : s.failed = true := by
  simpa [State.failed] using h

/-- The abort follows an error of a cycle (60_exceptions.md R215). -/
theorem inv_aborting {s : State} (h : s.Inv) (hc : s.phase.inCycle = true) {x : SState}
    (hx : Phase.abort.admits x = true) {e : ErrInfo} (he : e.kind ≠ .none) :
    ({ s with errInfo := e, errSticky := true, sstate := x, phase := .abort } : State).Inv :=
  have hn := Phase.ne_none_of_inCycle hc
  { h with
    phaseRuns := fun _ => h.phaseRuns hn
    acquireHasPhase := nofun
    phaseAdmits := hx
    cycleNonempty := fun _ => h.cycleNonempty hc
    accPartial := nofun
    finishFull := nofun
    completeFull := fun hcmp => by
      obtain rfl : x = .complete := hcmp
      cases hx
    initValidated := fun _ hd => by cases hd.symm.trans (h.decode_of_phase hn)
    initScaled := fun _ hd => by cases hd.symm.trans (h.decode_of_phase hn)
    noErrorIsZero := fun hf => absurd ((State.failed_eq_false_iff _).1 hf) he
    failedCycle := fun _ => .inr (.inl rfl) }

/-- A cycle ends without a batch: SSTATE goes to IDLE and the error completion follows (60_exceptions.md R215). -/
theorem inv_abandoned {s : State} (h : s.Inv) (hc : s.phase.inCycle = true) {e : ErrInfo}
    (he : e.kind = .none → e = .zero) :
    ({ s with errInfo := e, sstate := .idle, phase := .idleEnd } : State).Inv :=
  have hn := Phase.ne_none_of_inCycle hc
  { h with
    phaseRuns := fun _ => h.phaseRuns hn
    acquireHasPhase := nofun
    phaseAdmits := rfl
    cycleNonempty := nofun
    accPartial := nofun
    finishFull := nofun
    completeFull := nofun
    initValidated := fun _ hd => by cases hd.symm.trans (h.decode_of_phase hn)
    initScaled := fun _ hd => by cases hd.symm.trans (h.decode_of_phase hn)
    noErrorIsZero := fun hf => he ((State.failed_eq_false_iff _).1 hf)
    failedCycle := fun _ => .inr (.inr rfl) }

/-- With no phase, or in a cycle, recording an error keeps the invariant. -/
theorem inv_raise {s : State} (h : s.Inv) (hp : s.phase = .none ∨ s.phase.inCycle = true) {kind : ErrKind}
    (hk : kind ≠ .none) (sub : BitVec 4) (stp : Byte) (code : Half) : (raise kind sub stp code s).Inv := by
  rcases raise_cases kind sub stp code s with ⟨ho, e⟩ | ⟨hc, -, e⟩ | ⟨hf, e⟩ <;> rw [e]
  · have hn : s.phase = .none := by simpa [ho] using hp
    have hfailed : ({ s with errInfo := ⟨kind, sub, stp, code⟩, errSticky := true } : State).failed = true :=
      failed_of_kind hk
    exact { h with
      initValidated := fun _ _ _ hf => by cases hfailed.symm.trans hf
      initScaled := fun _ _ _ hf => by cases hfailed.symm.trans hf
      noErrorIsZero := fun hf => by cases hfailed.symm.trans hf
      failedCycle := fun _ => .inl hn }
  · exact inv_aborting h hc (Phase.abort_admits_of_inCycle hc h.phaseAdmits) hk
  · have hc : s.phase.inCycle = true := by rw [hf]; rfl
    exact { inv_abandoned h hc (e := ⟨kind, sub, stp, code⟩) fun hz => absurd hz hk with }

/-- `xfer` keeps the invariant where the statements after its success do. -/
theorem inv_xfer {α : Type} {Q : α → Prop} {t : State → Except Half α × State} (ht : Transacts Q t)
    {k : α → State → State} {s : State} (h : s.Inv) (hp : s.phase = .none ∨ s.phase.inCycle = true)
    (hk : ∀ v req l rest, Q v → (k v (delivered req l rest s)).Inv) : (xfer t k s).Inv := by
  obtain ⟨req, rest, ⟨v, l, e, hv⟩ | ⟨c, e⟩⟩ := ht.xfer_cases k s <;> rw [e]
  · exact hk v req l rest hv
  · exact inv_raise (inv_afterTransaction h req (.err c) rest) hp (by decide) _ _ _

/-- The bytes of a block fit DATABUF (10_state.md R45), and their number LASTLEN (R43). -/
theorem inv_storeBlock {s : State} (h : s.Inv) {l : List Byte} (hl : l.length ≤ P_BLOCK_MAX) :
    ({ storeDatabuf l s with lastLen := BitVec.ofNat 6 l.length } : State).Inv :=
  { h with
    memCanonical := Memory.writeBytes_wf h.memCanonical _ _
    memOnlyStorage := fun c hc => by
      rcases Memory.mem_writeBytes hc with hc | ⟨hlo, hhi⟩
      · exact h.memOnlyStorage c hc
      · have hrange : 0x040 ≤ c.1 ∧ c.1 < 0x060 := by
          simp only [databufBase, P_BLOCK_MAX] at hlo hhi hl
          omega
        simp [storageOffset, hrange]
    lastLenLe := by
      simp only [P_BLOCK_MAX, BitVec.toNat_ofNat] at hl ⊢
      omega }

/-! ### The ordinary commands -/

/-- A step of an ordinary command other than INIT keeps the invariant where its statements do. -/
theorem inv_ordinaryStep {acts : Nat → State → State} {s t : State} (h : s.Inv) (ho : s.phase = .none)
    (hcmd : t.cmd = s.cmd) (hi : decode s.cmd ≠ .ok .init) (hacts : ∀ n, (acts n s).Inv)
    (e : ordinaryStep acts s = .next t) : t.Inv := by
  rcases ordinaryStep_cases e with ⟨-, rfl⟩ | ⟨-, rfl⟩
  · exact inv_tick_of_not_init (inv_errorComplete h (by rw [ho]; rfl)) hi
  · exact inv_tick_of_not_init (hacts s.stepIx) (by rw [← hcmd] at hi; exact hi)

/-- A drain asks for no more than DATABUF holds (41_sensor_driver.md R148). -/
theorem drainLength_le (s : State) : drainLength s ≤ P_BLOCK_MAX := by
  simp only [drainLength, P_MAX_BURST, P_FRAME, P_BLOCK_MAX]
  omega

theorem le_blockMax_of_blockLengthOk {len : Byte} (h : blockLengthOk len = true) : len.toNat ≤ P_BLOCK_MAX := by
  simp only [blockLengthOk, Bool.and_eq_true, decide_eq_true_eq] at h
  exact h.2

/-- A step of a command other than INIT and ACQUIRE keeps the invariant. -/
theorem inv_exec_ordinary {i : Instr} {s t : State} (h : s.Inv) (hd : decode s.cmd = .ok i) (ha : i ≠ .acquire)
    (hi : i ≠ .init) (e : exec i s = .next t) : t.Inv := by
  have hp : s.phase = .none := h.phase_eq_none (by rw [hd]; simpa using ha)
  have ho : s.phase.inCycle = false := by rw [hp]; rfl
  have hcmd : t.cmd = s.cmd := (exec_within e).cmd_eq
  have hinit : decode s.cmd ≠ .ok .init := by rw [hd]; simpa using hi
  have hdone : (complete s).Inv := inv_complete h ho
  have hwrite (reg v : Byte) : (xfer (busWrite reg v) (fun _ s => s) s).Inv :=
    inv_xfer (transacts_busWrite reg v) h (.inl hp) fun _ _ _ _ _ => inv_delivered h _ _ _
  cases i with
  | init => exact absurd rfl hi
  | acquire => exact absurd rfl ha
  | nop => exact inv_ordinaryStep h hp hcmd hinit (fun _ => hdone) e
  | wrreg reg data =>
    change execWrreg reg data s = _ at e
    refine inv_ordinaryStep h hp hcmd hinit (fun n => ?_) e
    split
    · exact hwrite _ _
    · exact hdone
  | rdreg reg =>
    change execRdreg reg s = _ at e
    refine inv_ordinaryStep h hp hcmd hinit (fun n => ?_) e
    split
    · exact inv_xfer (transacts_busRead _) h (.inl hp) fun _ _ _ _ _ => { h with }
    · exact hdone
  | rdblk reg len =>
    change execRdblk reg len s = _ at e
    refine inv_ordinaryStep h hp hcmd hinit (fun n => ?_) e
    split
    · split
      · next hok =>
        exact inv_xfer (transacts_busReadBlock _ _) h (.inl hp) fun _ req l rest hl =>
          inv_storeBlock (inv_delivered h req l rest) (hl.trans (le_blockMax_of_blockLengthOk hok))
      · exact inv_failAtOnce h ho (by decide) _
    · exact hdone
  | fifoOn =>
    change execFifoOn s = _ at e
    refine inv_ordinaryStep h hp hcmd hinit (fun n => ?_) e
    split
    · exact hwrite _ _
    · exact hwrite _ _
    · exact hwrite _ _
    · exact hwrite _ _
    · exact hdone
  | fifoOff =>
    change execFifoOff s = _ at e
    refine inv_ordinaryStep h hp hcmd hinit (fun n => ?_) e
    split
    · exact hwrite _ _
    · exact hdone
  | fifoReset =>
    change execFifoReset s = _ at e
    refine inv_ordinaryStep h hp hcmd hinit (fun n => ?_) e
    split
    · exact hwrite _ _
    · exact hwrite _ _
    · exact hwrite _ _
    · exact hdone
  | rdstatus =>
    change execRdstatus s = _ at e
    refine inv_ordinaryStep h hp hcmd hinit (fun n => ?_) e
    split
    · exact inv_xfer (transacts_busRead _) h (.inl hp) fun _ _ _ _ _ => { h with }
    · exact hdone
  | rdcount =>
    change execRdcount s = _ at e
    refine inv_ordinaryStep h hp hcmd hinit (fun n => ?_) e
    split
    · exact inv_xfer (transacts_busRead _) h (.inl hp) fun _ _ _ _ _ => { h with }
    · exact inv_xfer (transacts_busRead _) h (.inl hp) fun _ _ _ _ _ => { h with }
    · exact hdone
  | drain =>
    change execDrain s = _ at e
    refine inv_ordinaryStep h hp hcmd hinit (fun n => ?_) e
    split
    · split
      · exact inv_complete (s := { s with lastLen := 0 }) { h with lastLenLe := Nat.zero_le _ } ho
      · refine inv_xfer (transacts_busReadBlock _ _) h (.inl hp) fun l req l' rest hl => ?_
        have hcnt : ({ delivered req l' rest s with fifoCnt := s.fifoCnt - BitVec.ofNat 16 l.length } : State).Inv :=
          { h with }
        exact inv_storeBlock hcnt (hl.trans (drainLength_le s))
    · exact hdone
  | decodeFrame len =>
    change execDecodeFrame len s = _ at e
    refine inv_ordinaryStep h hp hcmd hinit (fun n => ?_) e
    split
    · split
      · exact inv_complete (s := { s with
          decX := (databufFrame s).x, decY := (databufFrame s).y, decZ := (databufFrame s).z }) { h with } ho
      · exact inv_failAtOnce h ho (by decide) _
    · exact hdone

/-! ### INIT (41_sensor_driver.md R130, R131) -/

theorem scaleOk_of_legalRange {r : Byte} (h : legalRange r = true) : scaleOk r (fsCodeOf r) = true := by
  simp only [legalRange, Bool.or_eq_true, beq_iff_eq] at h
  rcases h with ((rfl | rfl) | rfl) | rfl <;> rfl

theorem ne_zero_of_legalRange {r : Byte} (h : legalRange r = true) : r ≠ 0 := by
  rintro rfl
  cases h

/-- What INIT's statements establish at step index `n`, beside the invariant: with no error, the inputs are validated
from the first step on and a range is programmed from the fourth on. -/
structure InitStage (n : Nat) (u : State) : Prop where
  inv : u.Inv
  stepIx_eq : u.stepIx = n
  validated : u.busy = true → u.failed = false → legalRange u.rangeG = true ∧ u.targetRate ≠ 0
  scaled : u.busy = true → u.failed = false → 3 ≤ n → u.range ≠ 0

theorem InitStage.tick {n : Nat} {u : State} (h : InitStage n u) : (tick u).Inv :=
  inv_tick h.inv (fun hb _ => h.validated hb) fun hb _ hf hn => h.scaled hb hf (by rw [← h.stepIx_eq]; exact hn)

/-- A completion needs nothing more: the command is no longer running. -/
theorem InitStage.of_ended {u : State} (h : u.Inv) (hb : u.busy = false) : InitStage u.stepIx u where
  inv := h
  stepIx_eq := rfl
  validated e := by cases hb.symm.trans e
  scaled e := by cases hb.symm.trans e

theorem busError_failed (c : Half) (s : State) : (busError c s).failed = true := by
  simp [State.failed, busError]

/-- A write of INIT: after an Err the error is recorded, after an Ok the statements `k` count. -/
theorem InitStage.xfer {reg v : Byte} {k : Unit → State → State} {s : State} (h : s.Inv) (hp : s.phase = .none)
    (hk : ∀ req l rest, InitStage s.stepIx (k () (delivered req l rest s))) :
    InitStage s.stepIx (xfer (busWrite reg v) k s) := by
  obtain ⟨rest, e | ⟨c, e⟩⟩ := xfer_busWrite_cases reg v k s <;> rw [e]
  · exact hk _ _ _
  · have hf := busError_failed c (afterTransaction (.write s.dev reg v) (.err c) rest s)
    exact {
      inv := inv_raise (inv_afterTransaction h _ _ _) (.inl hp) (by decide) _ _ _
      stepIx_eq := by rw [busError, raise_touches]; rfl
      validated := fun _ hz => by cases hf.symm.trans hz
      scaled := fun _ hz => by cases hf.symm.trans hz }

theorem initStage_start {s : State} (h : s.Inv) (hp : s.phase = .none) (h0 : s.stepIx = 0) :
    InitStage s.stepIx (initStart s) := by
  have ho : s.phase.inCycle = false := by rw [hp]; rfl
  have hfail (sub : BitVec 4) : InitStage s.stepIx (failAtOnce .configuration sub s) := by
    have hinv := inv_failAtOnce h ho (kind := .configuration) (by decide) sub
    rw [failAtOnce_of_outside ho] at hinv ⊢
    exact .of_ended hinv rfl
  unfold initStart
  split
  · exact hfail 1
  · next hrange =>
    split
    · exact hfail 2
    · next hrate =>
      have hlegal : legalRange s.rangeG = true := by simpa using hrange
      have hinv : ({ s with initDone := false } : State).Inv := { h with initDoneScaled := nofun }
      refine InitStage.xfer (s := { s with initDone := false }) hinv hp fun req l rest => ?_
      exact {
        inv := inv_delivered hinv req l rest
        stepIx_eq := rfl
        validated := fun _ _ => ⟨hlegal, hrate⟩
        scaled := fun _ _ h3 => absurd h3 (by simp [h0]) }

/-- A step of INIT keeps the invariant. -/
theorem inv_execInit {s t : State} (h : s.Inv) (hb : s.busy = true) (hd : decode s.cmd = .ok .init)
    (e : execInit s = .next t) : t.Inv := by
  have hp : s.phase = .none := h.phase_eq_none (by rw [hd]; decide)
  have ho : s.phase.inCycle = false := by rw [hp]; rfl
  rcases ordinaryStep_cases e with ⟨-, rfl⟩ | ⟨hf, rfl⟩
  · exact InitStage.tick (.of_ended (inv_errorComplete h ho) rfl)
  have hv (h1 : 1 ≤ s.stepIx) : legalRange s.rangeG = true ∧ s.targetRate ≠ 0 := h.initValidated hb hd h1 hf
  have hs (h4 : 4 ≤ s.stepIx) : s.range ≠ 0 := h.initScaled hb hd h4 hf
  refine InitStage.tick (n := s.stepIx) ?_
  split
  · next h0 => exact initStage_start h hp h0
  · next h1 =>
    exact ⟨h, rfl, fun _ _ => hv (by omega), fun _ _ h3 => absurd h3 (by omega)⟩
  · next h2 =>
    exact .xfer h hp fun req l rest => ⟨{ inv_delivered h req l rest with }, rfl,
      fun _ _ => hv (by omega), fun _ _ h3 => absurd h3 (by omega)⟩
  · next h3 =>
    have hlegal := (hv (by omega)).1
    have hrange := ne_zero_of_legalRange hlegal
    exact .xfer h hp fun req l rest => ⟨{ inv_delivered h req l rest with
        scaleLegal := scaleOk_of_legalRange hlegal
        initScaled := fun _ _ _ _ => hrange
        initDoneScaled := fun _ => hrange }, rfl, fun _ _ => hv (by omega), fun _ _ _ => hrange⟩
  · next h4 =>
    exact .xfer h hp fun req l rest => ⟨inv_delivered h req l rest, rfl,
      fun _ _ => hv (by omega), fun _ _ _ => hs (by omega)⟩
  · next h5 =>
    exact .xfer h hp fun req l rest =>
      ⟨{ inv_delivered h req l rest with initDoneScaled := fun _ => hs (by omega) }, rfl,
        fun _ _ => hv (by omega), fun _ _ _ => hs (by omega)⟩
  · exact .of_ended (inv_complete h ho) rfl

end Sys2Proof.Machine
end

section
/-! PROOF. The phases of ACQUIRE keep the invariant (42_batch_sampler.md R181). -/

namespace Sys2Proof.Machine

open Sys2Proof.Config

/-! ### ACQUIRE (42_batch_sampler.md R181) -/

/-- An ACQUIRE goes on to phase `p` with SSTATE `x`, where the table of 42_batch_sampler.md R181 allows the two. -/
theorem inv_enter {s : State} (h : s.Inv) (hn : s.phase ≠ .none) (hf : s.failed = false) (p : Phase) (x : SState)
    (hp : p ≠ .none) (hx : p.admits x = true) (hnlat : 1 ≤ s.nlat.toNat)
    (hacc : p.beforeFinish = true → s.acc.length < P_FRAME) (hfull : p = .finish ∨ x = .complete → s.sampCnt = s.nlat) :
    ({ s with sstate := x, phase := p } : State).Inv :=
  { h with
    phaseRuns := fun _ => h.phaseRuns hn
    acquireHasPhase := fun _ _ => hp
    phaseAdmits := hx
    cycleNonempty := fun _ => hnlat
    accPartial := hacc
    finishFull := fun e => hfull (.inl e)
    completeFull := fun e => ⟨hfull (.inr e), hnlat⟩
    failedCycle := fun e => by cases hf.symm.trans e }

theorem Phase.inCycle_of_beforeFinish {p : Phase} (h : p.beforeFinish = true) : p.inCycle = true := by
  revert h
  cases p <;> decide

theorem Phase.ne_finish_of_beforeFinish {p : Phase} (h : p.beforeFinish = true) : p ≠ .finish := by
  rintro rfl
  cases h

theorem State.Inv.not_failed_of_beforeFinish {s : State} (h : s.Inv) (hs : s.phase.beforeFinish = true) :
    s.failed = false := by
  refine h.not_failed ?_ ?_ ?_ <;> intro e <;> rw [e] at hs <;> cases hs

/-- A phase before the end of the cycle goes on to another one, `p`, with SSTATE `x`. -/
theorem inv_advance {s : State} (h : s.Inv) (hs : s.phase.beforeFinish = true) {p : Phase} {x : SState}
    (hp : p.beforeFinish = true) (hx : p.admits x = true) : ({ s with sstate := x, phase := p } : State).Inv :=
  have hc := Phase.inCycle_of_beforeFinish hs
  have hf : s.failed = false := h.not_failed_of_beforeFinish hs
  have hend : ¬ (p = .finish ∨ x = .complete) := by
    revert hp hx
    cases p <;> cases x <;> decide
  inv_enter h (Phase.ne_none_of_inCycle hc) hf p x (by rintro rfl; cases hp) hx (h.cycleNonempty hc)
    (fun _ => h.accPartial hs) fun e => absurd e hend

/-- A write before the end of the cycle, after which the phase `p` follows. -/
theorem inv_advance_write {s : State} (h : s.Inv) (hs : s.phase.beforeFinish = true) (reg v : Byte) {p : Phase}
    (hp : p.beforeFinish = true) (hx : p.admits s.sstate = true) :
    (xfer (busWrite reg v) (fun _ u => { u with phase := p }) s).Inv :=
  inv_xfer (transacts_busWrite reg v) h (.inr (Phase.inCycle_of_beforeFinish hs)) fun _ req l rest _ =>
    inv_advance (inv_delivered h req l rest) hs hp hx

/-- The start of cycle (42_batch_sampler.md R172), after its checks (R171). -/
theorem inv_startCycle {s : State} (h : s.Inv) (hp : s.phase = .start) (hn : legalBatch s.nsamp = true) :
    (startCycle s).Inv :=
  have hne : s.phase ≠ .none := by rw [hp]; decide
  have hf : s.failed = false := by refine h.not_failed ?_ ?_ ?_ <;> rw [hp] <;> decide
  have hb : 1 ≤ s.nsamp.toNat ∧ s.nsamp.toNat ≤ P_NMAX := by
    simpa only [legalBatch, Bool.and_eq_true, decide_eq_true_eq] using hn
  { h with
    phaseRuns := fun _ => h.phaseRuns hne
    acquireHasPhase := nofun
    phaseAdmits := rfl
    sampCntLe := Nat.zero_le _
    nlatLe := hb.2
    cycleNonempty := fun _ => hb.1
    accLe := Nat.zero_le _
    accPartial := fun _ => Nat.zero_lt_succ _
    finishFull := nofun
    completeFull := nofun
    failedCycle := fun e => by cases hf.symm.trans e }

theorem inv_acqStart {s : State} (h : s.Inv) (hp : s.phase = .start) : (acqStart s).Inv := by
  have ho : s.phase.inCycle = false := by rw [hp]; rfl
  unfold acqStart
  split
  · exact inv_failAtOnce h ho (by decide) _
  · split
    · exact inv_failAtOnce h ho (by decide) _
    · next hn => exact inv_advance_write (inv_startCycle h hp (by simpa using hn)) rfl _ _ rfl rfl

/-- After a status read, overflow ends the cycle and data-ready goes on to the count (42_batch_sampler.md R176,
R177). -/
theorem inv_acqOnStatus {s : State} (h : s.Inv) (hs : s.phase.beforeFinish = true) (hx : s.sstate = .accumulating)
    (b : Byte) : (acqOnStatus b s).Inv := by
  have hc := Phase.inCycle_of_beforeFinish hs
  have hb : ({ s with lastIntStatus := b } : State).Inv := { h with }
  unfold acqOnStatus
  dsimp only
  split
  · rw [raise_of_inCycle (s := { s with lastIntStatus := b, sstate := .overflow }) hc
      (Phase.ne_finish_of_beforeFinish hs)]
    exact inv_aborting hb hc rfl (by decide)
  · split <;> exact inv_advance hb hs rfl (by rw [hx]; rfl)

theorem loopPhase_beforeFinish (s : State) : (loopPhase s).beforeFinish = true := by
  unfold loopPhase
  split <;> rfl

theorem loopPhase_admits (s : State) : (loopPhase s).admits .accumulating = true := by
  unfold loopPhase
  split <;> rfl

/-- What a drain leaves: with the batch full, the completion write comes next, else another phase with less than a
frame in the accumulator (42_batch_sampler.md R178 to R180). -/
theorem inv_drained {s : State} (h : s.Inv) (hs : s.phase.beforeFinish = true) (hx : s.sstate = .accumulating)
    {acc : List Byte} {n : Half} {m : Memory} {p : Phase} (hwf : m.wf = true)
    (hmem : ∀ c ∈ m, storageOffset c.1 = true) (hn : n.toNat ≤ s.nlat.toNat) (hacc : acc.length ≤ 35)
    (hp : p = .finish ∧ n = s.nlat ∨ p.beforeFinish = true ∧ p.admits .accumulating = true ∧ acc.length < P_FRAME) :
    ({ s with acc := acc, sampCnt := n, mem := m, phase := p } : State).Inv :=
  have hc := Phase.inCycle_of_beforeFinish hs
  have hne := Phase.ne_none_of_inCycle hc
  have hf : s.failed = false := h.not_failed_of_beforeFinish hs
  { h with
    memCanonical := hwf
    memOnlyStorage := hmem
    phaseRuns := fun _ => h.phaseRuns hne
    acquireHasPhase := fun _ _ => by
      rcases hp with ⟨rfl, -⟩ | ⟨hb, -, -⟩
      · nofun
      · exact Phase.ne_none_of_inCycle (Phase.inCycle_of_beforeFinish hb)
    phaseAdmits := by
      rcases hp with ⟨rfl, -⟩ | ⟨-, ha, -⟩
      · exact beq_iff_eq.2 hx
      · rw [← hx] at ha
        exact ha
    sampCntLe := hn
    cycleNonempty := fun _ => h.cycleNonempty hc
    accLe := hacc
    accPartial := fun hb => by
      rcases hp with ⟨rfl, -⟩ | ⟨-, -, hl⟩
      · cases hb
      · exact hl
    finishFull := fun e => by
      rcases hp with ⟨-, hfull⟩ | ⟨hb, -, -⟩
      · exact hfull
      · exact absurd e (Phase.ne_finish_of_beforeFinish hb)
    completeFull := fun e => by cases hx.symm.trans e
    failedCycle := fun e => by cases hf.symm.trans e }

/-- What follows a drain, with the deframer's result written out field by field. -/
theorem acqOnBytes_eq (l : List Byte) (s : State) :
    acqOnBytes l s =
      { s with
        acc := (deframe (s.acc ++ l) s).acc, sampCnt := (deframe (s.acc ++ l) s).sampCnt
        mem := (deframe (s.acc ++ l) s).mem
        phase := if (deframe (s.acc ++ l) s).sampCnt = s.nlat then .finish else loopPhase s } := by
  have hd := deframe_touches (s.acc ++ l) s
  have hn : (deframe (s.acc ++ l) s).nlat = s.nlat := by rw [hd]
  have hl : loopPhase (deframe (s.acc ++ l) s) = loopPhase s := by rw [hd]; rfl
  simp only [acqOnBytes, hn, hl]
  generalize (if (deframe (s.acc ++ l) s).sampCnt = s.nlat then Phase.finish else loopPhase s) = p
  rw [hd]

/-- The deframer leaves no whole frame while the batch is not full, and never more than fits the accumulator. -/
theorem inv_acqOnBytes {s : State} (h : s.Inv) (hs : s.phase.beforeFinish = true) (hx : s.sstate = .accumulating)
    {l : List Byte} (hl : l.length ≤ P_MAX_BURST) : (acqOnBytes l s).Inv := by
  have hacc : (deframe (s.acc ++ l) s).acc.length ≤ 35 := by
    have hle := deframe_acc_length_le (s.acc ++ l) s
    have hpart := h.accPartial hs
    simp only [List.length_append, P_MAX_BURST, P_BLOCK_MAX, P_FRAME] at hle hpart hl
    omega
  have hcnt : (deframe (s.acc ++ l) s).sampCnt.toNat ≤ s.nlat.toNat := deframe_sampCnt_le h.sampCntLe
  rw [acqOnBytes_eq]
  refine inv_drained h hs hx (deframe_wf h.memCanonical) (deframe_onlyStorage h.nlatLe h.memOnlyStorage) hcnt hacc ?_
  split
  · next hfull => exact .inl ⟨rfl, hfull⟩
  · next hopen =>
    have hlt := lt_of_le_of_ne hcnt fun e => hopen (BitVec.eq_of_toNat_eq e)
    exact .inr ⟨loopPhase_beforeFinish s, loopPhase_admits s, deframe_acc_partial hlt⟩

/-- The two reads of the count (41_sensor_driver.md R147): CNTL follows CNTH, and the loop CNTL. -/
theorem inv_acqCountHigh {s : State} (h : s.Inv) (hs : s.phase.beforeFinish = true) (hx : s.sstate = .accumulating) :
    (acqCountHigh s).Inv := by
  refine inv_xfer (transacts_busRead _) h (.inr (Phase.inCycle_of_beforeFinish hs)) fun b req l rest _ => ?_
  have hhigh : ({ delivered req l rest s with cntHigh := b } : State).Inv := { h with }
  exact inv_advance hhigh hs rfl (beq_iff_eq.2 hx)

theorem inv_acqCountLow {s : State} (h : s.Inv) (hs : s.phase.beforeFinish = true) (hx : s.sstate = .accumulating) :
    (acqCountLow s).Inv := by
  refine inv_xfer (transacts_busRead _) h (.inr (Phase.inCycle_of_beforeFinish hs)) fun b req l rest _ => ?_
  have hcount : (setCount s.cntHigh b (delivered req l rest s)).Inv := { h with }
  exact inv_advance hcount hs (loopPhase_beforeFinish _) (hx ▸ loopPhase_admits _)

/-- One iteration of the loop (42_batch_sampler.md R175): a status read with nothing cached, else a drain. -/
theorem inv_acqIterate {s : State} (h : s.Inv) (hs : s.phase.beforeFinish = true) (hx : s.sstate = .accumulating) :
    (acqIterate s).Inv := by
  have hc := Phase.inCycle_of_beforeFinish hs
  unfold acqIterate
  split
  · exact inv_xfer (transacts_busRead _) h (.inr hc) fun b req l rest _ =>
      inv_acqOnStatus (inv_delivered h req l rest) hs hx b
  · unfold acqDrain drainXfer
    refine inv_xfer (transacts_busReadBlock _ _) h (.inr hc) fun l req l' rest hl => ?_
    have hcnt : ({ delivered req l' rest s with fifoCnt := s.fifoCnt - BitVec.ofNat 16 l.length } : State).Inv :=
      { h with }
    exact inv_acqOnBytes hcnt hs hx (hl.trans (Nat.min_le_right _ _))

/-- The completion write (42_batch_sampler.md R180). -/
theorem inv_acqFinish {s : State} (h : s.Inv) (hp : s.phase = .finish) : (acqFinish s).Inv := by
  have hc : s.phase.inCycle = true := by rw [hp]; rfl
  have hf : s.failed = false := by refine h.not_failed ?_ ?_ ?_ <;> rw [hp] <;> decide
  refine inv_xfer (transacts_busWrite _ _) h (.inr hc) fun _ req l rest _ => ?_
  have hacc : ({ delivered req l rest s with acc := [] } : State).Inv :=
    { h with accLe := Nat.zero_le _, accPartial := fun _ => Nat.zero_lt_succ _ }
  exact inv_enter hacc (Phase.ne_none_of_inCycle hc) hf .doneComplete .complete (by decide) rfl (h.cycleNonempty hc)
    nofun fun _ => h.finishFull hp

/-- The abort (60_exceptions.md R215, R216). -/
theorem inv_acqAbort {s : State} (h : s.Inv) (hp : s.phase = .abort) : (acqAbort s).Inv := by
  have hc : s.phase.inCycle = true := by rw [hp]; rfl
  have hzero : s.errInfo.kind = .none → s.errInfo = .zero := fun hk =>
    h.noErrorIsZero ((State.failed_eq_false_iff s).2 hk)
  obtain ⟨rest, e | ⟨c, e⟩⟩ := busWrite_cases s.params.A_FIFO_EN s.params.V_FIFO_EN_OFF s <;> simp only [acqAbort, e]
  · exact { inv_abandoned h hc hzero with }
  · exact { inv_abandoned h hc hzero with }

/-- A step of ACQUIRE keeps the invariant in every phase of 42_batch_sampler.md R181. -/
theorem inv_acqPhaseStep {s : State} (h : s.Inv) (hb : s.busy = true) (hd : decode s.cmd = .ok .acquire) :
    (acqPhaseStep s.phase s).Inv := by
  have hadm := h.phaseAdmits
  cases hp : s.phase <;> rw [hp] at hadm
  case none => exact absurd hp (h.acquireHasPhase hb hd)
  case start => exact inv_acqStart h hp
  case arm0 | arm1 | arm2 | arm3 => exact inv_advance_write h (by rw [hp]; rfl) _ _ rfl hadm
  case settle => exact inv_advance h (by rw [hp]; rfl) rfl rfl
  case poll | drain => exact inv_acqIterate h (by rw [hp]; rfl) (beq_iff_eq.1 hadm)
  case cnth => exact inv_acqCountHigh h (by rw [hp]; rfl) (beq_iff_eq.1 hadm)
  case cntl => exact inv_acqCountLow h (by rw [hp]; rfl) (beq_iff_eq.1 hadm)
  case finish => exact inv_acqFinish h hp
  case doneComplete => exact inv_complete h (by rw [hp]; rfl)
  case abort => exact inv_acqAbort h hp
  case idleEnd => exact inv_errorComplete h (by rw [hp]; rfl)

end Sys2Proof.Machine
end

section
/-! PROOF. The events of the three agents keep the invariant: the sequencer's, the host's and the reset
(20_memory.md R73). -/

namespace Sys2Proof.Machine

open Sys2Proof.Config

theorem inv_exec {i : Instr} {s t : State} (h : s.Inv) (hb : s.busy = true) (hd : decode s.cmd = .ok i)
    (e : exec i s = .next t) : t.Inv := by
  by_cases hi : i = .init
  · subst hi
    exact inv_execInit h hb hd e
  by_cases ha : i = .acquire
  · subst ha
    obtain rfl : tick (acqPhaseStep s.phase s) = t := by cases e; rfl
    have hcmd : (acqPhaseStep s.phase s).cmd = s.cmd := (within_acqPhaseStep s.phase s).cmd_eq
    exact inv_tick_of_not_init (inv_acqPhaseStep h hb hd) (by rw [hcmd, hd]; nofun)
  · exact inv_exec_ordinary h hd ha hi e

/-- The one step of a word that is no command (30_encoding.md R95, R96). -/
theorem inv_illegalCommand {s t : State} {x : DecodeError} (h : s.Inv) (hd : decode s.cmd = .error x)
    (e : illegalCommand x s = .next t) : t.Inv := by
  have hp : s.phase = .none := h.phase_eq_none (by rw [hd]; nofun)
  have ho : s.phase.inCycle = false := by rw [hp]; rfl
  obtain rfl : tick (failAtOnce .illegalCommand (illegalSubCause x) s) = t := by cases e; rfl
  have hcmd : (failAtOnce .illegalCommand (illegalSubCause x) s).cmd = s.cmd := by rw [failAtOnce_of_outside ho]
  exact inv_tick_of_not_init (inv_failAtOnce h ho (by decide) _) (by rw [hcmd, hd]; nofun)

theorem inv_sequencerTurn {s t : State} (h : s.Inv) (e : sequencerTurn s = .next t) : t.Inv := by
  unfold sequencerTurn at e
  split at e
  · next hb =>
    split at e
    · next i hd => exact inv_exec h hb hd e
    · next x hd => exact inv_illegalCommand h hd e
  · cases e
    exact h

/-! ### The host (20_memory.md R66, R67) -/

/-- With BUSY = 0 no command has a phase. -/
theorem State.Inv.phase_eq_none_of_idle {s : State} (h : s.Inv) (hb : s.busy = false) : s.phase = .none := by
  by_contra hn
  exact Bool.noConfusion (hb.symm.trans (h.phaseRuns hn).1)

theorem startPhase_cases (w : Word) :
    (decode w = .ok .acquire ∧ startPhase w = .start) ∨ (decode w ≠ .ok .acquire ∧ startPhase w = .none) := by
  unfold startPhase
  split
  · next hd => exact .inl ⟨hd, rfl⟩
  · next hd => exact .inr ⟨hd, rfl⟩

theorem startPhase_inCycle (w : Word) : (startPhase w).inCycle = false := by
  rcases startPhase_cases w with ⟨-, e⟩ | ⟨-, e⟩ <;> exact congrArg Phase.inCycle e

theorem startPhase_admits (w : Word) (x : SState) : (startPhase w).admits x = Phase.none.admits x := by
  rcases startPhase_cases w with ⟨-, e⟩ | ⟨-, e⟩
  · rw [e]
    rfl
  · rw [e]

/-- Acceptance of a command (43_control.md R201). -/
theorem inv_acceptCommand {s : State} (h : s.Inv) (hb : s.busy = false) (w : Word) : (acceptCommand w s).Inv :=
  have hadm : Phase.none.admits s.sstate = true := h.phase_eq_none_of_idle hb ▸ h.phaseAdmits
  have hout : (startPhase w).inCycle ≠ true := by rw [startPhase_inCycle]; decide
  { h with
    busyNotDone := fun _ => rfl
    phaseRuns := fun hn => ⟨rfl, ((startPhase_cases w).resolve_right fun ⟨_, e⟩ => hn e).1⟩
    acquireHasPhase := fun _ hd hn => by
      rcases startPhase_cases w with ⟨-, e⟩ | ⟨hne, -⟩
      · cases e.symm.trans hn
      · exact hne hd
    phaseAdmits := (startPhase_admits w s.sstate).trans hadm
    cycleNonempty := fun hc => absurd hc hout
    accPartial := fun hs => absurd (Phase.inCycle_of_beforeFinish hs) hout
    finishFull := fun e => absurd (congrArg Phase.inCycle e) hout
    initValidated := nofun
    initScaled := nofun
    noErrorIsZero := fun _ => rfl
    failedCycle := nofun }

/-- A write of one DATABUF word (10_state.md R45). -/
theorem inv_writeDatabufWord {s : State} (h : s.Inv) {o : Nat} (hlo : 0x040 ≤ o) (hhi : o + 4 ≤ 0x060) (v : Word) :
    ({ s with mem := s.mem.writeBytes o (wordBytes v) } : State).Inv :=
  { h with
    memCanonical := Memory.writeBytes_wf h.memCanonical _ _
    memOnlyStorage := fun c hc => by
      rcases Memory.mem_writeBytes hc with hc | ⟨h1, h2⟩
      · exact h.memOnlyStorage c hc
      · have hrange : 0x040 ≤ c.1 ∧ c.1 < 0x060 := by
          simp only [wordBytes, List.length_cons, List.length_nil] at h2
          omega
        simp [storageOffset, hrange] }

/-- While BUSY = 0 the configuration may change: only INIT's clauses read it, and only while it runs. -/
theorem inv_configured {s : State} (h : s.Inv) (hb : s.busy = false) (a : DevAddr) (r : Byte) (rate n : Half) :
    ({ s with busAddr := a, rangeG := r, targetRate := rate, nsamp := n } : State).Inv :=
  { h with
    initValidated := fun e => Bool.noConfusion (hb.symm.trans e) }

theorem inv_hostWrite {s : State} (h : s.Inv) {off : Offset} (ha : off.toNat % 4 = 0) (v : Word) :
    (hostWrite off v s).Inv := by
  rcases hostWrite_cases off v s with
    ⟨-, e⟩ | ⟨-, -, e⟩ | ⟨hb, ⟨-, e⟩ | ⟨-, e⟩ | ⟨-, e⟩ | ⟨-, e⟩ | ⟨hlo, hhi, e⟩⟩ | e <;> rw [e]
  · exact { h with }
  · exact { h with }
  · exact inv_acceptCommand h hb v
  · exact inv_configured h hb _ _ s.targetRate s.nsamp
  · exact inv_configured h hb s.busAddr s.rangeG _ s.nsamp
  · exact inv_configured h hb s.busAddr s.rangeG s.targetRate _
  · exact inv_writeDatabufWord h hlo (by omega) v
  · exact h

theorem inv_hostTurn {s t : State} (h : s.Inv) (e : hostTurn s = .next t) : t.Inv := by
  unfold hostTurn at e
  split at e
  · cases e
    exact h
  · split at e
    · cases e
      exact { h with }
    · cases e
  · next off width v rest hhost =>
    split at e
    · next hsup =>
      cases e
      have ha : off.toNat % 4 = 0 := by
        simp only [supportedAccess, Bool.and_eq_true, decide_eq_true_eq] at hsup
        exact hsup.2
      have hrest : ({ s with host := rest } : State).Inv := { h with }
      exact inv_hostWrite hrest ha v
    · cases e
  · cases e
    exact { h with }

/-! ### Reset (70_reset_and_hazards.md R241) -/

/-- Settles O46: at reset nothing runs and every register is 0. -/
theorem resetSatisfiesTheInvariant : Obligations.ResetSatisfiesTheInvariant where
  memCanonical := rfl
  memOnlyStorage := nofun
  busyNotDone := nofun
  phaseRuns := fun hn => absurd rfl hn
  acquireHasPhase := nofun
  phaseAdmits := rfl
  sampCntLe := Nat.le_refl 0
  nlatLe := Nat.zero_le _
  cycleNonempty := nofun
  accLe := Nat.zero_le _
  accPartial := nofun
  finishFull := nofun
  completeFull := nofun
  lastLenLe := Nat.zero_le _
  scaleLegal := rfl
  initValidated := nofun
  initScaled := nofun
  initDoneScaled := nofun
  noErrorIsZero := fun _ => rfl
  failedCycle := nofun

theorem inv_blockReset (s : State) : (blockReset s).Inv :=
  have h : State.reset.Inv := resetSatisfiesTheInvariant
  { h with }

/-- Settles O47: each agent's event keeps the invariant, and whose turn comes next is no part of it. -/
theorem stepKeepsTheInvariant : Obligations.StepKeepsTheInvariant := by
  intro s t h e
  have hturns (ts : List Turn) : ({ s with turns := ts } : State).Inv := { h with }
  unfold step at e
  split at e
  · exact inv_hostTurn (hturns _) e
  · exact inv_sequencerTurn (hturns _) e
  · cases e
    exact inv_blockReset _
  · split at e
    · exact inv_sequencerTurn h e
    · exact inv_hostTurn h e

end Sys2Proof.Machine
end

section
/-! PROOF. What the host's accesses do and what they leave unchanged: writes of the window (20_memory.md R66, R67), reads
(R62, R65, R79) and the accesses the block does not support (R63). -/

namespace Sys2Proof.Machine

open Sys2Proof.Config

/-! ### Writes -/

theorem busyGuarded_iff (o : Nat) :
    busyGuarded o = true ↔ o = 0x004 ∨ o = 0x010 ∨ o = 0x014 ∨ o = 0x018 ∨ (0x040 ≤ o ∧ o < 0x060) := by
  simp [busyGuarded, or_assoc]

theorem hostWrite_guarded_of_busy {off : Offset} {s : State} (hg : busyGuarded off.toNat = true)
    (hb : s.busy = true) (v : Word) : hostWrite off v s = { s with cmdRejected := true } := by
  have h8 : off.toNat ≠ 0x008 := by
    have := (busyGuarded_iff _).1 hg
    omega
  unfold hostWrite
  rw [if_neg h8, if_pos hg, if_pos hb]

theorem hostWrite_databuf_of_idle {i : Nat} (hi : i < 8) {s : State} (hb : s.busy = false) (v : Word) :
    hostWrite (BitVec.ofNat 15 (0x040 + 4 * i)) v s =
      { s with mem := s.mem.writeBytes (0x040 + 4 * i) (wordBytes v) } := by
  have hg : busyGuarded (0x040 + 4 * i) = true := (busyGuarded_iff _).2 (by omega)
  unfold hostWrite
  rw [toNat_offset (by omega)]
  dsimp only
  rw [if_neg (by omega), if_pos hg, if_neg (ne_true_of_eq_false hb)]
  iterate 4 rw [if_neg (by omega)]

theorem hostWrite_of_unguarded {off : Offset} (h8 : off.toNat ≠ 0x008) (hg : ¬ busyGuarded off.toNat = true)
    (v : Word) (s : State) : hostWrite off v s = s := by
  unfold hostWrite
  rw [if_neg h8, if_neg hg]

theorem hostWrite_cfg_of_idle {s : State} (hb : s.busy = false) (v : Word) :
    hostWrite 0x010 v s = { s with busAddr := v.extractLsb' 0 7, rangeG := v.extractLsb' 8 8 } ∧
      hostWrite 0x014 v s = { s with targetRate := v.extractLsb' 0 16 } ∧
      hostWrite 0x018 v s = { s with nsamp := v.extractLsb' 0 16 } := by
  simp [hostWrite, busyGuarded, hb]

/-- Settles O10: a guarded offset, and BUSY = 1. -/
theorem busyWritesAreRejected : Obligations.BusyWritesAreRejected := by
  intro s off v hb hoff
  refine hostWrite_guarded_of_busy ((busyGuarded_iff _).2 ?_) hb v
  rcases hoff with rfl | rfl | rfl | rfl | hdatabuf
  · exact .inl rfl
  · exact .inr (.inl rfl)
  · exact .inr (.inr (.inl rfl))
  · exact .inr (.inr (.inr (.inl rfl)))
  · exact .inr (.inr (.inr (.inr hdatabuf)))

/-! ### A word of the memory (20_memory.md R64) -/

theorem wordBytes_length (v : Word) : (wordBytes v).length = 4 := rfl

theorem wordBytes_getElem (v : Word) {j : Nat} (hj : j < (wordBytes v).length) :
    (wordBytes v)[j] = v.extractLsb' (8 * j) 8 := by
  rw [wordBytes_length] at hj
  interval_cases j <;> rfl

/-- Two words with the same four bytes are the same word. -/
theorem word_ext_bytes {v w : Word} (h : ∀ j, j < 4 → v.extractLsb' (8 * j) 8 = w.extractLsb' (8 * j) 8) : v = w := by
  apply BitVec.eq_of_getLsbD_eq
  intro i hi
  have hbit := congrArg (BitVec.getLsbD · (i % 8)) (h (i / 8) (by omega))
  simpa [BitVec.getLsbD_extractLsb', Nat.mod_lt, Nat.div_add_mod] using hbit

theorem read_writeWord {m : Memory} (hw : m.wf = true) (a : Nat) (v : Word) {j : Nat} (hj : j < 4) :
    (m.writeBytes a (wordBytes v)).read (a + j) = v.extractLsb' (8 * j) 8 := by
  have hin : a ≤ a + j ∧ a + j < a + (wordBytes v).length := by rw [wordBytes_length]; omega
  rw [Memory.read_writeBytes hw, dif_pos hin]
  simp only [Nat.add_sub_cancel_left, wordBytes_getElem]

theorem readWord_writeWord {m : Memory} (hw : m.wf = true) (a : Nat) (v : Word) :
    (m.writeBytes a (wordBytes v)).readWord a = v :=
  word_ext_bytes fun _ hj => (readWord_byte _ a hj).trans (read_writeWord hw a v hj)

theorem hostRead_databuf {i : Nat} (hi : i < 8) (s : State) :
    hostRead (BitVec.ofNat 15 (0x040 + 4 * i)) s = s.mem.readWord (0x040 + 4 * i) := by
  unfold hostRead
  rw [toNat_offset (by omega), windowWord_databuf s (by omega) (by omega)]

/-- Settles O11: one rule of `hostWrite` for each part of the map; a DATABUF word is read back byte by byte. -/
theorem hostWriteEffects : Obligations.HostWriteEffects := by
  intro s v
  refine ⟨rfl, fun hb => hostWrite_cfg_of_idle hb v, fun hb hw i hi => ?_, fun off h4 h8 h10 h14 h18 hout => ?_⟩
  · intro off
    have hwrite : hostWrite off v s = _ := hostWrite_databuf_of_idle hi hb v
    rw [hwrite]
    refine ⟨rfl, (hostRead_databuf hi _).trans (readWord_writeWord hw _ v), fun j hj => ?_, fun a ha => ?_⟩
    · rw [State.databuf, ← Nat.add_assoc, read_writeWord hw _ v hj]
    · exact Memory.read_writeBytes_of_outside hw (by rw [wordBytes_length]; omega)
  · have hne {c : Offset} (h : off ≠ c) : off.toNat ≠ c.toNat := fun e => h (BitVec.eq_of_toNat_eq e)
    have hunguarded : ¬ busyGuarded off.toNat = true := fun hg => by
      rcases (busyGuarded_iff _).1 hg with e | e | e | e | hdatabuf
      · exact hne h4 e
      · exact hne h10 e
      · exact hne h14 e
      · exact hne h18 e
      · omega
    exact hostWrite_of_unguarded (hne h8) hunguarded v s

/-! ### The host's statements -/

theorem supportedAccess_iff (off : Offset) (width : Nat) :
    supportedAccess off width = true ↔ width = 4 ∧ off.toNat % 4 = 0 := by
  simp [supportedAccess]

theorem unsupportedAccess_iff (off : Offset) (width : Nat) :
    ¬ supportedAccess off width = true ↔ width ≠ 4 ∨ off.toNat % 4 ≠ 0 := by
  rw [supportedAccess_iff, not_and_or]

theorem hostTurn_ld {s : State} {off : Offset} {width : Nat} {rest : List HostStmt}
    (h : s.host = .ld off width :: rest) :
    hostTurn s = if supportedAccess off width then
      .next { s with host := rest, loads := hostRead off s :: s.loads } else .refused .unsupportedHostAccess := by
  simp only [hostTurn, h]

theorem hostTurn_st {s : State} {off : Offset} {width : Nat} {v : Word} {rest : List HostStmt}
    (h : s.host = .st off width v :: rest) :
    hostTurn s = if supportedAccess off width then .next (hostWrite off v { s with host := rest })
      else .refused .unsupportedHostAccess := by
  simp only [hostTurn, h]

/-- Settles O12: an aligned `ld` is supported, and `poll` looks at bit 0 of STATUS, which is BUSY. -/
theorem hostReadsHaveNoSideEffects : Obligations.HostReadsHaveNoSideEffects := by
  refine fun s rest => ⟨fun off hhost ha => ?_, fun hhost => ?_⟩
  · exact (hostTurn_ld hhost).trans (if_pos ((supportedAccess_iff _ _).2 ⟨rfl, ha⟩))
  · have hbusy : s.statusWord.getLsbD 0 = s.busy := (statusWord_low_bits s).1
    simp only [hostTurn, hhost, hbusy]
    rfl

/-- Settles O13: the check on the access decides both the read and the write. -/
theorem unsupportedAccessIsRefused : Obligations.UnsupportedAccessIsRefused := by
  refine fun s off width v rest => ⟨fun hbad hhost => ?_, fun hbad hhost => ?_, fun hwidth ha hhost => ?_⟩
  · exact (hostTurn_ld hhost).trans (if_neg ((unsupportedAccess_iff _ _).2 hbad))
  · exact (hostTurn_st hhost).trans (if_neg ((unsupportedAccess_iff _ _).2 hbad))
  · exact (hostTurn_st hhost).trans (if_pos ((supportedAccess_iff _ _).2 ⟨hwidth, ha⟩))

/-! ### Reserved fields and offsets -/

theorem statusWord_reserved (s : State) :
    s.statusWord.getLsbD 7 = false ∧ s.statusWord.extractLsb' 12 4 = 0 ∧ s.statusWord.extractLsb' 24 8 = 0 := by
  refine ⟨?_, ?_, ?_⟩
  · simp only [State.statusWord, BitVec.getLsbD_append]
    simp
  · unfold State.statusWord
    iterate 10 rw [BitVec.extractLsb'_append_eq_of_le (by omega)]
    rw [BitVec.extractLsb'_append_eq_of_add_le (by omega)]
    rfl
  · unfold State.statusWord
    iterate 12 rw [BitVec.extractLsb'_append_eq_of_le (by omega)]
    rfl

theorem cfgDevWord_reserved (a : DevAddr) (r : Byte) :
    (cfgDevWord a r).getLsbD 7 = false ∧ (cfgDevWord a r).extractLsb' 16 16 = 0 := by
  constructor
  · simp only [cfgDevWord, BitVec.getLsbD_append]
    simp
  · simp only [cfgDevWord, BitVec.extractLsb'_append_eq_ite]
    simp

/-- Above its one field at bit 0 a register reads 0. -/
theorem zeroExtend_reserved {n k : Nat} (x : BitVec n) : (x.zeroExtend 32).extractLsb' n k = 0 := by
  apply BitVec.eq_of_getLsbD_eq
  intro i _
  simp [BitVec.getLsbD_extractLsb', BitVec.getLsbD_setWidth]

/-- The field at the top of a register of three (10_state.md R39, R43). -/
theorem append_top_field {n k l : Nat} (x : BitVec n) (y : BitVec k) (z : BitVec l) :
    (x ++ y ++ z).extractLsb' (l + k) n = x := by
  rw [BitVec.extractLsb'_append_eq_of_le (Nat.le_add_right l k), Nat.add_sub_cancel_left,
    BitVec.extractLsb'_append_eq_of_le le_rfl, Nat.sub_self, BitVec.extractLsb'_eq_self]

theorem windowWord_reserved (s : State) {o : Nat} (hlo : 0x060 ≤ o) (hhi : o < 0x4000) : windowWord s o = 0 := by
  unfold windowWord
  iterate 17 rw [if_neg (by omega)]

/-- Settles O14: each register's word is 0 outside its fields, and no register or array has the other offsets. -/
theorem reservedReadsAreZero : Obligations.ReservedReadsAreZero := by
  intro s
  obtain ⟨h7, h12, h24⟩ := statusWord_reserved s
  obtain ⟨hdev7, hdev16⟩ := cfgDevWord_reserved s.busAddr s.rangeG
  exact ⟨rfl, rfl, fun off hlo hhi => windowWord_reserved s hlo hhi, h7, h12, h24, hdev7, hdev16, zeroExtend_reserved _,
    zeroExtend_reserved _, zeroExtend_reserved _, append_top_field _ s.range s.fsCode, zeroExtend_reserved _,
    zeroExtend_reserved _, zeroExtend_reserved _, append_top_field _ s.lastLen s.rdByte, zeroExtend_reserved _⟩

end Sys2Proof.Machine
end

section
/-! PROOF. The command word (30_encoding.md R90 to R103): what the opcode map and the decoder answer, told once, then the
statements on encoding, mask and match, and ignored fields. -/

namespace Sys2Proof

/-! ### The opcode map (30_encoding.md R93) -/

/-- Everything the opcode map can answer: nothing for 0xD to 0xF, and otherwise a command with that opcode. -/
theorem instrOf_cases (op : BitVec 4) (reg arg : Byte) :
    (0xD ≤ op.toNat ∧ instrOf op reg arg = none) ∨
      (op.toNat ≤ 0xC ∧ ∃ i, instrOf op reg arg = some i ∧ i.opcode = op) := by
  unfold instrOf
  split
  case h_14 =>
    refine .inl ⟨?_, rfl⟩
    simp only [imp_false] at *
    omega
  all_goals
    next h => exact .inr ⟨by omega, _, rfl, BitVec.eq_of_toNat_eq h.symm⟩

theorem instrOf_of_reserved {op : BitVec 4} (h : 0xD ≤ op.toNat) (reg arg : Byte) : instrOf op reg arg = none := by
  rcases instrOf_cases op reg arg with ⟨-, e⟩ | ⟨hle, -⟩
  · exact e
  · omega

theorem instrOf_of_defined {op : BitVec 4} (h : op.toNat ≤ 0xC) (reg arg : Byte) :
    ∃ i, instrOf op reg arg = some i := by
  rcases instrOf_cases op reg arg with ⟨hge, -⟩ | ⟨-, i, e, -⟩
  · omega
  · exact ⟨i, e⟩

theorem opcode_of_instrOf {op : BitVec 4} {reg arg : Byte} {i : Instr} (h : instrOf op reg arg = some i) :
    i.opcode = op := by
  rcases instrOf_cases op reg arg with ⟨-, e⟩ | ⟨-, j, e, hj⟩
  · cases e.symm.trans h
  · cases e.symm.trans h
    exact hj

theorem instrOf_encoded (i : Instr) : instrOf i.opcode i.regOperand i.argOperand = some i := by
  cases i <;> rfl

/-- REG means something to opcodes 1, 2 and 3 only (R91, R97). -/
theorem instrOf_reg_ignored {op : BitVec 4} (h : ¬ (op = 1 ∨ op = 2 ∨ op = 3)) (reg reg' arg : Byte) :
    instrOf op reg arg = instrOf op reg' arg := by
  unfold instrOf
  split
  case h_2 e => exact absurd (.inl (BitVec.eq_of_toNat_eq e)) h
  case h_3 e => exact absurd (.inr (.inl (BitVec.eq_of_toNat_eq e))) h
  case h_4 e => exact absurd (.inr (.inr (BitVec.eq_of_toNat_eq e))) h
  all_goals rfl

/-- ARG means something to opcodes 1, 3 and 0xB only (R91, R97). -/
theorem instrOf_arg_ignored {op : BitVec 4} (h : ¬ (op = 1 ∨ op = 3 ∨ op = 0xB)) (reg arg arg' : Byte) :
    instrOf op reg arg = instrOf op reg arg' := by
  unfold instrOf
  split
  case h_2 e => exact absurd (.inl (BitVec.eq_of_toNat_eq e)) h
  case h_4 e => exact absurd (.inr (.inl (BitVec.eq_of_toNat_eq e))) h
  case h_12 e => exact absurd (.inr (.inr (BitVec.eq_of_toNat_eq e))) h
  all_goals rfl

theorem instrOf_congr {op : BitVec 4} {reg reg' arg arg' : Byte} (hreg : op = 1 ∨ op = 2 ∨ op = 3 → reg = reg')
    (harg : op = 1 ∨ op = 3 ∨ op = 0xB → arg = arg') : instrOf op reg arg = instrOf op reg' arg' :=
  calc instrOf op reg arg = instrOf op reg' arg := by
        by_cases h : op = 1 ∨ op = 2 ∨ op = 3
        · rw [hreg h]
        · exact instrOf_reg_ignored h _ _ _
    _ = instrOf op reg' arg' := by
        by_cases h : op = 1 ∨ op = 3 ∨ op = 0xB
        · rw [harg h]
        · exact instrOf_arg_ignored h _ _ _

/-! ### The fields (30_encoding.md R91) -/

/-- The fields of a word laid out as R91 draws it. -/
theorem fields_of_layout (rsv1 arg reg : Byte) (rsv0 op : BitVec 4) :
    let w : Word := rsv1 ++ arg ++ reg ++ rsv0 ++ op
    opField w = op ∧ rsv0Field w = rsv0 ∧ regField w = reg ∧ argField w = arg ∧ rsv1Field w = rsv1 := by
  simp only [opField, rsv0Field, regField, argField, rsv1Field, BitVec.extractLsb'_append_eq_ite]
  simp

/-- A word is its five fields. -/
theorem layout_fields (w : Word) : rsv1Field w ++ argField w ++ regField w ++ rsv0Field w ++ opField w = w := by
  simp only [rsv1Field, argField, regField, rsv0Field, opField]
  iterate 4 rw [BitVec.extractLsb'_append_extractLsb'_eq_extractLsb' (by rfl)]
  exact BitVec.extractLsb'_eq_self

/-- The mask of R94 keeps the opcode and the reserved fields. -/
theorem fields_of_masked (w : Word) :
    opField (w &&& 0xFF0000FF) = opField w ∧ rsv0Field (w &&& 0xFF0000FF) = rsv0Field w ∧
      rsv1Field (w &&& 0xFF0000FF) = rsv1Field w := by
  simp only [opField, rsv0Field, rsv1Field, BitVec.extractLsb'_and]
  exact ⟨BitVec.and_allOnes, BitVec.and_allOnes, BitVec.and_allOnes⟩

/-- A word of at most 0xC has a defined opcode and nothing above it. -/
theorem fields_of_small {w : Word} (h : w.toNat ≤ 0xC) :
    (opField w).toNat ≤ 0xC ∧ rsv0Field w = 0 ∧ rsv1Field w = 0 := by
  refine ⟨?_, BitVec.eq_of_toNat_eq ?_, BitVec.eq_of_toNat_eq ?_⟩ <;>
    simp only [opField, rsv0Field, rsv1Field, BitVec.extractLsb'_toNat, Nat.shiftRight_eq_div_pow, BitVec.ofNat_eq_ofNat,
      BitVec.toNat_ofNat] <;>
    omega

/-! ### The decoder (30_encoding.md R95, R96, R99) -/

theorem decode_of_reservedOpcode {w : Word} (h : 0xD ≤ (opField w).toNat) : decode w = .error .reservedOpcode := by
  unfold decode
  rw [instrOf_of_reserved h]

theorem decode_of_instrOf {w : Word} {i : Instr} (h : instrOf (opField w) (regField w) (argField w) = some i) :
    decode w = if rsv0Field w = 0 ∧ rsv1Field w = 0 then .ok i else .error .reservedBits := by
  unfold decode
  rw [h]

theorem decode_of_reservedBits {w : Word} (hop : (opField w).toNat ≤ 0xC)
    (hrsv : rsv0Field w ≠ 0 ∨ rsv1Field w ≠ 0) : decode w = .error .reservedBits := by
  obtain ⟨i, hi⟩ := instrOf_of_defined hop (regField w) (argField w)
  exact (decode_of_instrOf hi).trans (if_neg (not_and_or.2 hrsv))

/-- A word is a command exactly when the opcode map has its opcode and its reserved fields are 0. -/
theorem decode_eq_ok_iff {w : Word} {i : Instr} :
    decode w = .ok i ↔
      instrOf (opField w) (regField w) (argField w) = some i ∧ rsv0Field w = 0 ∧ rsv1Field w = 0 := by
  constructor
  · intro h
    unfold decode at h
    split at h
    · cases h
    · next j hj =>
      split at h
      · next hrsv =>
        cases h
        exact ⟨hj, hrsv⟩
      · cases h
  · exact fun ⟨hi, hrsv⟩ => (decode_of_instrOf hi).trans (if_pos hrsv)

/-! ### The statements -/

/-- Settles O1: the encoder lays out the fields, and the opcode map gives the command back from them. -/
theorem decodeOfEncode : Obligations.DecodeOfEncode := by
  intro i
  obtain ⟨hop, hrsv0, hreg, harg, hrsv1⟩ := fields_of_layout 0 i.argOperand i.regOperand 0 i.opcode
  refine decode_eq_ok_iff.2 ⟨?_, hrsv0, hrsv1⟩
  unfold encode
  rw [hop, hreg, harg, instrOf_encoded]

/-- Settles O2: a command's word is its opcode, its operands and two reserved fields that are 0, and the mask drops the
operands. -/
theorem decodeIsMaskAndMatch : Obligations.DecodeIsMaskAndMatch := by
  refine fun w => ⟨fun i hi => ?_, fun hle => ?_⟩
  · obtain ⟨hmap, hrsv0, hrsv1⟩ := decode_eq_ok_iff.1 hi
    have hw := layout_fields w
    rw [hrsv0, hrsv1] at hw
    rw [← hw, Laws.MaskMatch.masked, opcode_of_instrOf hmap]
  · obtain ⟨hop, hrsv0, hrsv1⟩ := fields_of_small hle
    obtain ⟨kop, krsv0, krsv1⟩ := fields_of_masked w
    obtain ⟨i, hi⟩ := instrOf_of_defined (kop ▸ hop) (regField w) (argField w)
    exact ⟨i, decode_eq_ok_iff.2 ⟨hi, krsv0 ▸ hrsv0, krsv1 ▸ hrsv1⟩⟩

/-- Settles O3: the decoder reads REG and ARG through the opcode map only, which ignores what an opcode does not use. -/
theorem ignoredFieldsAreIgnored : Obligations.IgnoredFieldsAreIgnored := by
  refine ⟨fun w w' hop hrsv0 hrsv1 hreg harg => ?_, fun w h => decode_of_reservedOpcode h⟩
  unfold decode
  rw [← hop, ← hrsv0, ← hrsv1, instrOf_congr hreg harg]

/-- Settles O7: the decoder run on each word of the table. -/
theorem encodingExamplesDecode : Obligations.EncodingExamplesDecode := by
  unfold Obligations.EncodingExamplesDecode
  decide

end Sys2Proof
end

section
/-! PROOF. Words that complete in their first step with an error and no transaction: reserved encodings and operands out
of range (30_encoding.md R95, R96, R98). -/

namespace Sys2Proof.Machine

open Sys2Proof.Config

/-! ### The first turn after acceptance (43_control.md R201, R202) -/

/-- What acceptance of `w` and an error completion in the first step leave (43_control.md R201, 60_exceptions.md R213). -/
def refusedAtOnce (kind : ErrKind) (sub : BitVec 4) (w : Word) (s : State) : State :=
  { s with
    cmd := w, dev := s.busAddr, errInfo := ⟨kind, sub, 0, 0⟩, errSticky := true,
    busy := false, done := true, stepIx := 1, xcount := 0, phase := .none }

theorem tick_failAtOnce_acceptCommand (kind : ErrKind) (sub : BitVec 4) (w : Word) (s : State) :
    tick (failAtOnce kind sub (acceptCommand w s)) = refusedAtOnce kind sub w s := by
  rw [failAtOnce_of_outside (startPhase_inCycle w)]
  rfl

theorem firstTurn_of_command {s : State} {w : Word} {i : Instr} (hb : s.busy = false) (hd : decode w = .ok i) :
    sequencerTurn (hostWrite 0x004 w s) = exec i (acceptCommand w s) := by
  rw [hostWrite_command_of_idle hb]
  simp [sequencerTurn, hd]

/-- A word that is no command takes one step (30_encoding.md R99). -/
theorem firstTurn_of_undecoded {s : State} {w : Word} {e : DecodeError} (hb : s.busy = false)
    (hd : decode w = .error e) :
    sequencerTurn (hostWrite 0x004 w s) = .next (refusedAtOnce .illegalCommand (illegalSubCause e) w s) := by
  rw [hostWrite_command_of_idle hb, ← tick_failAtOnce_acceptCommand]
  simp [sequencerTurn, hd, illegalCommand, sequencerStep]

/-- The first step of a command whose own check fails. -/
theorem ordinaryStep_acceptCommand_of_check {acts : Nat → State → State} {kind : ErrKind} {sub : BitVec 4} {w : Word}
    {s : State} (h : acts 0 (acceptCommand w s) = failAtOnce kind sub (acceptCommand w s)) :
    ordinaryStep acts (acceptCommand w s) = .next (refusedAtOnce kind sub w s) := by
  rw [ordinaryStep_of_running rfl, acceptCommand_stepIx, h, tick_failAtOnce_acceptCommand]

/-! ### Reserved encodings -/

/-- Settles O4: the decoder refuses the word, whatever its other fields hold. -/
theorem reservedOpcodeIsIllegal : Obligations.ReservedOpcodeIsIllegal := fun _ _ hb hop =>
  firstTurn_of_undecoded hb (decode_of_reservedOpcode hop)

/-- Settles O5: the decoder finds the opcode and refuses the reserved field. -/
theorem reservedBitsAreIllegal : Obligations.ReservedBitsAreIllegal := fun _ _ hb hop hrsv =>
  firstTurn_of_undecoded hb (decode_of_reservedBits hop hrsv)

/-! ### Lengths (30_encoding.md R98) -/

theorem decode_rdblk {w : Word} (hop : opField w = 3) (hrsv0 : rsv0Field w = 0) (hrsv1 : rsv1Field w = 0) :
    decode w = .ok (.rdblk (regField w) (argField w)) :=
  decode_eq_ok_iff.2 ⟨by rw [hop]; rfl, hrsv0, hrsv1⟩

theorem decode_decodeFrame {w : Word} (hop : opField w = 0xB) (hrsv0 : rsv0Field w = 0) (hrsv1 : rsv1Field w = 0) :
    decode w = .ok (.decodeFrame (argField w)) :=
  decode_eq_ok_iff.2 ⟨by rw [hop]; rfl, hrsv0, hrsv1⟩

theorem not_blockLengthOk_of_out_of_range {len : Byte} (h : len = 0 ∨ 32 < len.toNat) : ¬ blockLengthOk len = true := by
  simp only [blockLengthOk, Bool.and_eq_true, decide_eq_true_eq]
  rcases h with rfl | h
  · decide
  · exact fun h' => Nat.not_le.2 h h'.2

/-- RDBLK checks its length before its transaction (R99). -/
theorem execRdblk_acceptCommand_of_bad {reg len : Byte} (h : ¬ blockLengthOk len = true) (w : Word) (s : State) :
    execRdblk reg len (acceptCommand w s) = .next (refusedAtOnce .illegalCommand 3 w s) :=
  ordinaryStep_acceptCommand_of_check (if_neg h)

/-- DECODE's length check is its FramingError (41_sensor_driver.md R138). -/
theorem execDecodeFrame_acceptCommand_of_bad {len : Byte} (h : len.toNat ≠ P_FRAME) (w : Word) (s : State) :
    execDecodeFrame len (acceptCommand w s) = .next (refusedAtOnce .framing 0 w s) :=
  ordinaryStep_acceptCommand_of_check (if_neg h)

/-- Settles O6: both words decode, and the command's first step makes the check. -/
theorem blockLengthOutOfRangeIsIllegal : Obligations.BlockLengthOutOfRangeIsIllegal := by
  refine ⟨fun s w hb hop hrsv0 hrsv1 hlen => ?_, fun w => decode_decodeFrame, fun s w hb hop hrsv0 hrsv1 hlen => ?_⟩
  · exact (firstTurn_of_command hb (decode_rdblk hop hrsv0 hrsv1)).trans
      (execRdblk_acceptCommand_of_bad (not_blockLengthOk_of_out_of_range hlen) w s)
  · exact (firstTurn_of_command hb (decode_decodeFrame hop hrsv0 hrsv1)).trans
      (execDecodeFrame_acceptCommand_of_bad (fun h => hlen (BitVec.eq_of_toNat_eq h)) w s)

end Sys2Proof.Machine
end

section
/-! PROOF. The bus primitive commands against a sensor that answers Ok: one transaction, then the completion
(40_bus_primitive.md R110 to R114). -/

namespace Sys2Proof.Machine

open Sys2Proof.Config

/-! ### The primitives on a listed answer (00_scope.md R14) -/

theorem draw_of_cons {s : State} {a : SensorAnswer} {rest : List SensorAnswer} (h : s.sensor = a :: rest) :
    draw s = (a, { s with sensor := rest, draws := s.draws + 1 }) := by
  simp only [draw, h]

theorem busWrite_of_ok {s : State} {l : List Byte} {rest : List SensorAnswer} (h : s.sensor = .ok l :: rest)
    (reg v : Byte) : busWrite reg v s = (.ok (), afterTransaction (.write s.dev reg v) (.ok []) rest s) := by
  simp only [busWrite, draw_of_cons h]
  rfl

theorem busRead_of_ok {s : State} {b : Byte} {rest : List SensorAnswer} (h : s.sensor = .ok [b] :: rest)
    (reg : Byte) : busRead reg s = (.ok b, afterTransaction (.read s.dev reg) (.ok [b]) rest s) := by
  simp only [busRead, draw_of_cons h, fitByte]
  rfl

/-- An answer of a length the parameters allow is delivered unchanged. -/
theorem fitBlock_of_fits {p : Params} {n : Nat} {l : List Byte} (h : FitsBlock p n l) (d : Nat) :
    fitBlock p.P_SHORT_READ d n l = l := by
  cases hs : p.P_SHORT_READ with
  | false =>
    obtain rfl : l.length = n := by simpa [FitsBlock, hs] using h
    exact fitBlock_self false d l
  | true =>
    obtain ⟨hpos, hle⟩ : 1 ≤ l.length ∧ l.length ≤ n := by simpa [FitsBlock, hs] using h
    cases l with
    | nil => cases hpos
    | cons b l => exact List.take_of_length_le hle

theorem busReadBlock_of_ok {s : State} {n : Nat} {l : List Byte} {rest : List SensorAnswer}
    (hfit : FitsBlock s.params n l) (h : s.sensor = .ok l :: rest) (reg : Byte) :
    busReadBlock reg n s = (.ok l, afterTransaction (.readBlock s.dev reg n) (.ok l) rest s) := by
  simp only [busReadBlock, draw_of_cons h, fitBlock_of_fits hfit]
  rfl

/-! ### The two steps of a bus primitive command (43_control.md R202, R205) -/

theorem not_failed_of_zero {s : State} (h : s.errInfo = .zero) : s.failed = false :=
  s.failed_eq_false_iff.2 (by rw [h]; rfl)

/-- The step of number `n`, of a command that no error has ended. -/
theorem ordinaryStep_at {acts : Nat → State → State} {s : State} {n : Nat} (he : s.errInfo = .zero)
    (hn : s.stepIx = n) : ordinaryStep acts s = .next (tick (acts n s)) := by
  rw [ordinaryStep_of_running (not_failed_of_zero he), hn]

theorem execWrreg_first {s : State} {reg data : Byte} (he : s.errInfo = .zero) (h0 : s.stepIx = 0) :
    execWrreg reg data s = .next (tick (xfer (busWrite reg data) (fun _ s => s) s)) :=
  ordinaryStep_at he h0

theorem execWrreg_second {s : State} {reg data : Byte} (he : s.errInfo = .zero) (h1 : s.stepIx = 1) :
    execWrreg reg data s = .next (ended s) :=
  ordinaryStep_at he h1

theorem execRdreg_first {s : State} {reg : Byte} (he : s.errInfo = .zero) (h0 : s.stepIx = 0) :
    execRdreg reg s = .next (tick (xfer (busRead reg) (fun b s => { s with rdByte := b }) s)) :=
  ordinaryStep_at he h0

theorem execRdreg_second {s : State} {reg : Byte} (he : s.errInfo = .zero) (h1 : s.stepIx = 1) :
    execRdreg reg s = .next (ended s) :=
  ordinaryStep_at he h1

theorem blockLengthOk_of_range {len : Byte} (hlo : 1 ≤ len.toNat) (hhi : len.toNat ≤ 32) : blockLengthOk len = true := by
  simp only [blockLengthOk, Bool.and_eq_true, decide_eq_true_eq]
  exact ⟨hlo, hhi⟩

theorem execRdblk_first {s : State} {reg len : Byte} (he : s.errInfo = .zero) (h0 : s.stepIx = 0)
    (hlen : blockLengthOk len = true) :
    execRdblk reg len s = .next (tick (xfer (busReadBlock reg len.toNat)
      (fun l s => { storeDatabuf l s with lastLen := BitVec.ofNat 6 l.length }) s)) := by
  refine (ordinaryStep_at he h0).trans ?_
  simp only [if_pos hlen]

theorem execRdblk_second {s : State} {reg len : Byte} (he : s.errInfo = .zero) (h1 : s.stepIx = 1) :
    execRdblk reg len s = .next (ended s) :=
  ordinaryStep_at he h1

/-- Settles O23: the block is delivered as answered, and the store puts byte `i` at `databuf[i]`. -/
theorem rdblkFillsTheBuffer : Obligations.RdblkFillsTheBuffer := by
  intro s reg len l rest he h0 hw hlo hhi hfit hs
  have hfirst : exec (.rdblk reg len) s = .next
      { afterOk (.readBlock s.dev reg len.toNat) l rest s with
        mem := s.mem.writeBytes databufBase l, lastLen := BitVec.ofNat 6 l.length } := by
    refine (execRdblk_first he h0 (blockLengthOk_of_range hlo hhi)).trans ?_
    rw [xfer_of_ok (busReadBlock_of_ok hfit hs reg)]
    rfl
  refine ⟨s.mem.writeBytes databufBase l, hfirst, fun i hi => ?_,
    fun a ha => Memory.read_writeBytes_of_outside hw ha, fun t ht => ?_⟩
  · rw [Memory.read_writeBytes hw, dif_pos ⟨Nat.le_add_right _ _, Nat.add_lt_add_left hi _⟩]
    simp [hi]
  · rw [hfirst] at ht
    cases ht
    exact execRdblk_second he (congrArg (· + 1) h0)

/-- Settles O21: the write takes the listed answer, and no statement follows it. -/
theorem wrregWritesOneRegister : Obligations.WrregWritesOneRegister := by
  intro s reg data l rest he h0 hs
  refine ⟨(execWrreg_first he h0).trans ?_, execWrreg_second he (congrArg (· + 1) h0)⟩
  rw [xfer_of_ok (busWrite_of_ok hs reg data)]
  rfl

/-- Settles O22: the read takes the listed byte, and its one statement stores it. -/
theorem rdregReadsOneRegister : Obligations.RdregReadsOneRegister := by
  intro s reg b rest he h0 hs
  refine ⟨(execRdreg_first he h0).trans ?_, execRdreg_second he (congrArg (· + 1) h0)⟩
  rw [xfer_of_ok (busRead_of_ok hs reg)]
  rfl

end Sys2Proof.Machine
end

section
/-! PROOF. A failed transaction of a command other than ACQUIRE: one walk through the commands that says its step is
BusError on the state it started from, and the error completion after it (40_bus_primitive.md R111, 60_exceptions.md
R213, R217). -/

namespace Sys2Proof.Machine

open Sys2Proof.Config

/-! ### Statements that a failed transaction stops -/

/-- If the statements that lead from `s` to `u` made one transaction and it failed, they did no more than record its
BusError. -/
def StopsAtBusError (s u : State) : Prop :=
  ∀ req c, u.trace = ⟨req, .err c⟩ :: s.trace → u = busError c (afterTransaction req (.err c) u.sensor s)

theorem StopsAtBusError.of_no_transaction {s u : State} (h : u.trace = s.trace) : StopsAtBusError s u :=
  fun _ _ e => absurd (e.symm.trans h) (List.cons_ne_self _ _)

theorem failAtOnce_trace (kind : ErrKind) (sub : BitVec 4) (s : State) : (failAtOnce kind sub s).trace = s.trace := by
  rw [failAtOnce, raise_touches]
  rfl

@[simp] theorem busError_sensor (c : Half) (s : State) : (busError c s).sensor = s.sensor := by
  rw [busError, raise_touches]

/-- `xfer`: after an Ok the trace shows no failure, after an Err nothing follows BusError. -/
theorem stopsAtBusError_xfer {α : Type} {Q : α → Prop} {t : State → Except Half α × State} (ht : Transacts Q t)
    {k : α → State → State} {s : State} (hk : ∀ v u, (k v u).trace = u.trace) : StopsAtBusError s (xfer t k s) := by
  intro req c htr
  obtain ⟨req', rest, ⟨v, l, e, -⟩ | ⟨c', e⟩⟩ := ht.xfer_cases k s <;> rw [e] at htr ⊢
  · injection (hk v _).symm.trans htr with hx
    injection hx with _ hans
    cases hans
  · injection (busError_trace c' _).symm.trans htr with hx
    cases hx
    rw [busError_sensor]
    rfl

theorem stopsAtBusError_write (reg v : Byte) (s : State) :
    StopsAtBusError s (xfer (busWrite reg v) (fun _ s => s) s) :=
  stopsAtBusError_xfer (transacts_busWrite reg v) fun _ _ => rfl

theorem stopsAtBusError_complete (s : State) : StopsAtBusError s (complete s) := .of_no_transaction rfl

theorem stopsAtBusError_failAtOnce (kind : ErrKind) (sub : BitVec 4) (s : State) :
    StopsAtBusError s (failAtOnce kind sub s) :=
  .of_no_transaction (failAtOnce_trace kind sub s)

theorem StopsAtBusError.ite {p : Prop} [Decidable p] {s u v : State} (hu : StopsAtBusError s u)
    (hv : StopsAtBusError s v) : StopsAtBusError s (if p then u else v) := by
  split
  · exact hu
  · exact hv

/-- INIT_DONE is cleared before INIT's first transaction (41_sensor_driver.md R130). -/
theorem stopsAtBusError_initStart (s : State) : StopsAtBusError { s with initDone := false } (initStart s) :=
  .ite (.of_no_transaction (failAtOnce_trace _ _ s))
    (.ite (.of_no_transaction (failAtOnce_trace _ _ s)) (stopsAtBusError_write _ _ _))

/-! ### The step of each command -/

/-- The state in which a step's transaction is made: INIT's first step has cleared INIT_DONE (41_sensor_driver.md
R130). -/
def attempted (i : Instr) (s : State) : State :=
  { s with initDone := if i = .init ∧ s.stepIx = 0 then false else s.initDone }

theorem attempted_of_not_init {i : Instr} (hi : i ≠ .init) (s : State) : attempted i s = s := by
  rw [attempted, if_neg fun h => hi h.1]

theorem attempted_init_first {s : State} (h : s.stepIx = 0) : attempted .init s = { s with initDone := false } := by
  rw [attempted, if_pos ⟨rfl, h⟩]

theorem attempted_init_later {s : State} {n : Nat} (h : s.stepIx = n + 1) : attempted .init s = s := by
  rw [attempted, if_neg fun h' => Nat.succ_ne_zero n (h.symm.trans h'.2)]

/-- A step of an ordinary command that no error has ended, up to its tick. -/
theorem exists_tick_of_ordinaryStep {acts : Nat → State → State} {P : State → Prop} {s t : State}
    (he : s.errInfo = .zero) (h : ordinaryStep acts s = .next t) (hacts : ∀ n, s.stepIx = n → P (acts n s)) :
    ∃ u, t = tick u ∧ P u := by
  rw [ordinaryStep_at he rfl] at h
  cases h
  exact ⟨_, rfl, hacts _ rfl⟩

theorem execInit_stopsAtBusError {s t : State} (he : s.errInfo = .zero) (h : execInit s = .next t) :
    ∃ u, t = tick u ∧ StopsAtBusError (attempted .init s) u :=
  exists_tick_of_ordinaryStep he h fun
    | 0, hn => by rw [attempted_init_first hn]; exact stopsAtBusError_initStart s
    | n + 1, hn => by
      rw [attempted_init_later hn]
      exact match n with
      | 0 => .of_no_transaction rfl
      | 1 => stopsAtBusError_xfer (transacts_busWrite _ _) fun _ _ => rfl
      | 2 => stopsAtBusError_xfer (transacts_busWrite _ _) fun _ _ => rfl
      | 3 => stopsAtBusError_write _ _ s
      | 4 => stopsAtBusError_xfer (transacts_busWrite _ _) fun _ _ => rfl
      | _ + 5 => stopsAtBusError_complete s

/-- A step of a command other than ACQUIRE does no more, after a failed transaction, than record its BusError. -/
theorem exec_stopsAtBusError {i : Instr} {s t : State} (hi : i ≠ .acquire) (he : s.errInfo = .zero)
    (h : exec i s = .next t) : ∃ u, t = tick u ∧ StopsAtBusError (attempted i s) u := by
  by_cases hinit : i = .init
  · subst hinit
    exact execInit_stopsAtBusError he h
  rw [attempted_of_not_init hinit]
  have hwrite (reg v : Byte) := stopsAtBusError_write reg v s
  have hdone := stopsAtBusError_complete s
  unfold exec at h
  cases i with
  | acquire => exact absurd rfl hi
  | init => exact absurd rfl hinit
  | nop => exact exists_tick_of_ordinaryStep he h fun _ _ => hdone
  | wrreg reg data =>
    exact exists_tick_of_ordinaryStep he h fun
      | 0, _ => hwrite reg data
      | _ + 1, _ => hdone
  | rdreg reg =>
    exact exists_tick_of_ordinaryStep he h fun
      | 0, _ => stopsAtBusError_xfer (transacts_busRead reg) fun _ _ => rfl
      | _ + 1, _ => hdone
  | rdblk reg len =>
    exact exists_tick_of_ordinaryStep he h fun
      | 0, _ => .ite (stopsAtBusError_xfer (transacts_busReadBlock reg _) fun _ _ => rfl)
          (stopsAtBusError_failAtOnce _ _ s)
      | _ + 1, _ => hdone
  | fifoOn =>
    exact exists_tick_of_ordinaryStep he h fun
      | 0, _ => hwrite _ _
      | 1, _ => hwrite _ _
      | 2, _ => hwrite _ _
      | 3, _ => hwrite _ _
      | _ + 4, _ => hdone
  | fifoOff =>
    exact exists_tick_of_ordinaryStep he h fun
      | 0, _ => hwrite _ _
      | _ + 1, _ => hdone
  | fifoReset =>
    exact exists_tick_of_ordinaryStep he h fun
      | 0, _ => hwrite _ _
      | 1, _ => hwrite _ _
      | 2, _ => hwrite _ _
      | _ + 3, _ => hdone
  | rdstatus =>
    exact exists_tick_of_ordinaryStep he h fun
      | 0, _ => stopsAtBusError_xfer (transacts_busRead _) fun _ _ => rfl
      | _ + 1, _ => hdone
  | rdcount =>
    exact exists_tick_of_ordinaryStep he h fun
      | 0, _ => stopsAtBusError_xfer (transacts_busRead _) fun _ _ => rfl
      | 1, _ => stopsAtBusError_xfer (transacts_busRead _) fun _ _ => rfl
      | _ + 2, _ => hdone
  | drain =>
    exact exists_tick_of_ordinaryStep he h fun
      | 0, _ => .ite (.of_no_transaction rfl) (stopsAtBusError_xfer (transacts_busReadBlock _ _) fun _ _ => rfl)
      | _ + 1, _ => hdone
  | decodeFrame len =>
    exact exists_tick_of_ordinaryStep he h fun
      | 0, _ => .ite (.of_no_transaction rfl) (stopsAtBusError_failAtOnce _ _ s)
      | _ + 1, _ => hdone

/-- After an error the step of any command but ACQUIRE is the error completion (60_exceptions.md R213, R217). -/
theorem exec_of_failed {i : Instr} {s : State} (hi : i ≠ .acquire) (hf : s.failed = true) :
    exec i s = .next (ended s) := by
  unfold exec
  cases i with
  | acquire => exact absurd rfl hi
  | _ => exact ordinaryStep_of_failed hf

/-- Settles O32: the step is BusError on the state the transaction was made in, and the recorded error ends the
command. -/
theorem busErrorStopsTheCommand : Obligations.BusErrorStopsTheCommand := by
  intro i s t req c hi he hp h htr
  obtain ⟨u, rfl, hu⟩ := exec_stopsAtBusError hi he h
  have hbus : u = busError c (afterTransaction req (.err c) u.sensor (attempted i s)) := hu req c htr
  have hfailed : u.failed = true := by
    rw [hbus]
    exact busError_failed c _
  have hout : (afterTransaction req (.err c) u.sensor (attempted i s)).phase.inCycle = false :=
    congrArg Phase.inCycle hp
  rw [busError_of_outside hout] at hbus
  exact ⟨congrArg tick hbus, exec_of_failed hi hfailed⟩

end Sys2Proof.Machine
end

section
/-! PROOF. The parameters that 00_scope.md R7 leaves OPEN: every operation commutes with giving them other values
(40_bus_primitive.md R116, 43_control.md R204, 20_memory.md R61). -/

namespace Sys2Proof.Machine

open Sys2Proof.Config

/-- Values for the OPEN parameters. -/
structure OpenParams where
  busKind : BusKind
  base : Nat
  settle : Nat
  resetSettle : Nat

/-- The state with these values. -/
def State.reopen (o : OpenParams) (s : State) : State :=
  s.withOpenParams o.busKind o.base o.settle o.resetSettle

/-- `x` reads no OPEN parameter. -/
def Unread {α : Type} (x : State → α) : Prop :=
  ∀ o s, x (s.reopen o) = x s

/-- `f` does the same whatever the OPEN parameters are, and keeps them. -/
def IgnoresOpen (f : State → State) : Prop :=
  ∀ o s, f (s.reopen o) = (f s).reopen o

/-- The same of a bus primitive, whose answer is the same too. -/
def TransferIgnoresOpen {α : Type} (t : State → Except Half α × State) : Prop :=
  ∀ o s, t (s.reopen o) = ((t s).1, (t s).2.reopen o)

/-- The same of an event, which may be refused. -/
def EventIgnoresOpen (e : State → Host.Outcome State Fault Refusal) : Prop :=
  ∀ o s t, e s = .next t → e (s.reopen o) = .next (t.reopen o)

/-! ### Composition, choice and transactions -/

theorem IgnoresOpen.comp {f g : State → State} (hg : IgnoresOpen g) (hf : IgnoresOpen f) :
    IgnoresOpen fun s => g (f s) :=
  fun o s => (congrArg g (hf o s)).trans (hg o (f s))

/-- A choice: by default `hc` is checked by computing `c`, which settles it where no OPEN parameter is read. -/
theorem IgnoresOpen.ite {c : State → Prop} [DecidablePred c] {f g : State → State} (hf : IgnoresOpen f)
    (hg : IgnoresOpen g) (hc : Unread c := by exact fun _ _ => rfl) :
    IgnoresOpen fun s => if c s then f s else g s := by
  intro o s
  dsimp only
  simp only [hc o s, hf o s, hg o s]
  split <;> rfl

theorem draw_ignoresOpen (o : OpenParams) (s : State) :
    draw (s.reopen o) = ((draw s).1, (draw s).2.reopen o) := by
  have hsensor : (s.reopen o).sensor = s.sensor := rfl
  unfold draw
  rw [hsensor]
  cases s.sensor <;> rfl

theorem busWrite_ignoresOpen (reg v : Byte) : TransferIgnoresOpen (busWrite reg v) := by
  intro o s
  unfold busWrite
  rw [draw_ignoresOpen]
  rcases draw s with ⟨_ | _, s1⟩ <;> rfl

theorem busRead_ignoresOpen (reg : Byte) : TransferIgnoresOpen (busRead reg) := by
  intro o s
  unfold busRead
  rw [draw_ignoresOpen]
  rcases draw s with ⟨_ | _, s1⟩ <;> rfl

theorem busReadBlock_ignoresOpen (reg : Byte) (n : Nat) : TransferIgnoresOpen (busReadBlock reg n) := by
  intro o s
  unfold busReadBlock
  rw [draw_ignoresOpen]
  rcases draw s with ⟨_ | _, s1⟩ <;> rfl

/-- Entering the abort looks at the phase only. -/
theorem enterAbort_ignoresOpen : IgnoresOpen enterAbort := by
  intro o s
  have hphase : (s.reopen o).phase = s.phase := rfl
  unfold enterAbort
  rw [hphase]
  cases s.phase <;> rfl

theorem raise_ignoresOpen (kind : ErrKind) (sub : BitVec 4) (stp : Byte) (code : Half) :
    IgnoresOpen (raise kind sub stp code) :=
  have hrecord : IgnoresOpen fun s => { s with errInfo := ⟨kind, sub, stp, code⟩, errSticky := true } :=
    fun _ _ => rfl
  .ite (enterAbort_ignoresOpen.comp hrecord) hrecord

theorem failAtOnce_ignoresOpen (kind : ErrKind) (sub : BitVec 4) : IgnoresOpen (failAtOnce kind sub) :=
  IgnoresOpen.comp (g := errorComplete) (fun _ _ => rfl) (raise_ignoresOpen kind sub 0 0)

theorem busError_ignoresOpen (c : Half) : IgnoresOpen (busError c) := fun o s =>
  raise_ignoresOpen .bus 0 (BitVec.ofNat 8 (min s.xcount 255)) c o s

/-- `xfer` of a primitive, and statements after it, that are chosen by the state at the start of the step. -/
theorem IgnoresOpen.xfer {α : Type} {t : State → State → Except Half α × State} {k : State → α → State → State}
    (htransfer : ∀ s, TransferIgnoresOpen (t s)) (hnext : ∀ s v, IgnoresOpen (k s v))
    (ht : Unread t := by exact fun _ _ => rfl) (hk : Unread k := by exact fun _ _ => rfl) :
    IgnoresOpen fun s => xfer (t s) (k s) s := by
  intro o s
  dsimp only
  rw [ht, hk]
  unfold Machine.xfer
  rw [htransfer]
  rcases t s s with ⟨c | v, s1⟩
  · exact busError_ignoresOpen c o s1
  · exact hnext s v o { s1 with xcount := s1.xcount + 1 }

theorem write_ignoresOpen {reg v : State → Byte} {k : State → Unit → State → State}
    (hnext : ∀ s u, IgnoresOpen (k s u)) (hreg : Unread reg := by exact fun _ _ => rfl)
    (hv : Unread v := by exact fun _ _ => rfl) (hk : Unread k := by exact fun _ _ => rfl) :
    IgnoresOpen fun s => xfer (busWrite (reg s) (v s)) (k s) s :=
  .xfer (fun _ => busWrite_ignoresOpen _ _) hnext (fun o s => by rw [hreg, hv]) hk

theorem read_ignoresOpen {reg : State → Byte} {k : State → Byte → State → State}
    (hnext : ∀ s b, IgnoresOpen (k s b)) (hreg : Unread reg := by exact fun _ _ => rfl)
    (hk : Unread k := by exact fun _ _ => rfl) : IgnoresOpen fun s => xfer (busRead (reg s)) (k s) s :=
  .xfer (fun _ => busRead_ignoresOpen _) hnext (fun o s => by rw [hreg]) hk

theorem drainXfer_ignoresOpen {k : List Byte → State → State} (hk : ∀ l, IgnoresOpen (k l)) :
    IgnoresOpen (drainXfer k) :=
  .xfer (fun _ => busReadBlock_ignoresOpen _ _) fun _ l =>
    (hk l).comp (f := fun u => { u with fifoCnt := u.fifoCnt - BitVec.ofNat 16 l.length }) fun _ _ => rfl

/-! ### ACQUIRE -/

theorem acqArm0_ignoresOpen : IgnoresOpen acqArm0 := write_ignoresOpen fun _ _ _ _ => rfl

theorem acqArm1_ignoresOpen : IgnoresOpen acqArm1 := write_ignoresOpen fun _ _ _ _ => rfl

theorem acqArm2_ignoresOpen : IgnoresOpen acqArm2 := write_ignoresOpen fun _ _ _ _ => rfl

theorem acqArm3_ignoresOpen : IgnoresOpen acqArm3 := write_ignoresOpen fun _ _ _ _ => rfl

theorem acqStart_ignoresOpen : IgnoresOpen acqStart :=
  .ite (failAtOnce_ignoresOpen _ _)
    (.ite (failAtOnce_ignoresOpen _ _) (acqArm0_ignoresOpen.comp (f := startCycle) fun _ _ => rfl))

theorem acqOnStatus_ignoresOpen (b : Byte) : IgnoresOpen (acqOnStatus b) :=
  .ite
    ((raise_ignoresOpen _ _ _ _).comp (f := fun s => { s with lastIntStatus := b, sstate := .overflow })
      fun _ _ => rfl)
    (.ite (fun _ _ => rfl) fun _ _ => rfl)

theorem acqCountHigh_ignoresOpen : IgnoresOpen acqCountHigh := read_ignoresOpen fun _ _ _ _ => rfl

theorem acqCountLow_ignoresOpen : IgnoresOpen acqCountLow := read_ignoresOpen fun _ _ _ _ => rfl

/-- The deframer's two ends and its stored frame, as `deframe_induction` walks them. -/
theorem deframe_ignoresOpen (l : List Byte) : IgnoresOpen (deframe l) := by
  intro o s
  refine deframe_induction (P := fun l s => deframe l (s.reopen o) =
    (deframe l s).reopen o) ?_ ?_ l s
  · rintro l s (h | h)
    · rw [deframe_short h, deframe_short h]
      rfl
    · rw [deframe_full h, deframe_full (s := s.reopen o) h]
      rfl
  · intro b0 b1 b2 b3 b4 b5 rest s h ih
    rw [deframe_frame h, deframe_frame (s := s.reopen o) h]
    exact ih

theorem acqOnBytes_ignoresOpen (l : List Byte) : IgnoresOpen (acqOnBytes l) := fun o s =>
  congrArg (fun u : State => { u with phase := if u.sampCnt = u.nlat then .finish else loopPhase u })
    (deframe_ignoresOpen (s.acc ++ l) o s)

theorem acqIterate_ignoresOpen : IgnoresOpen acqIterate :=
  .ite (read_ignoresOpen fun _ => acqOnStatus_ignoresOpen) (drainXfer_ignoresOpen acqOnBytes_ignoresOpen)

theorem acqFinish_ignoresOpen : IgnoresOpen acqFinish := write_ignoresOpen fun _ _ _ _ => rfl

theorem acqAbort_ignoresOpen : IgnoresOpen acqAbort := by
  intro o s
  have hwrite : busWrite (s.reopen o).params.A_FIFO_EN (s.reopen o).params.V_FIFO_EN_OFF (s.reopen o) =
      ((busWrite s.params.A_FIFO_EN s.params.V_FIFO_EN_OFF s).1,
        (busWrite s.params.A_FIFO_EN s.params.V_FIFO_EN_OFF s).2.reopen o) := busWrite_ignoresOpen _ _ o s
  unfold acqAbort
  rw [hwrite]
  rcases busWrite s.params.A_FIFO_EN s.params.V_FIFO_EN_OFF s with ⟨_ | _, s1⟩ <;> rfl

theorem complete_ignoresOpen : IgnoresOpen complete := fun _ _ => rfl

theorem acqPhaseStep_ignoresOpen (p : Phase) : IgnoresOpen (acqPhaseStep p) := by
  cases p with
  | none => exact acqStart_ignoresOpen
  | start => exact acqStart_ignoresOpen
  | arm0 => exact acqArm0_ignoresOpen
  | arm1 => exact acqArm1_ignoresOpen
  | arm2 => exact acqArm2_ignoresOpen
  | arm3 => exact acqArm3_ignoresOpen
  | settle => exact fun _ _ => rfl
  | poll => exact acqIterate_ignoresOpen
  | cnth => exact acqCountHigh_ignoresOpen
  | cntl => exact acqCountLow_ignoresOpen
  | drain => exact acqIterate_ignoresOpen
  | finish => exact acqFinish_ignoresOpen
  | doneComplete => exact complete_ignoresOpen
  | abort => exact acqAbort_ignoresOpen
  | idleEnd => exact fun _ _ => rfl

/-! ### The step of each command -/

theorem sequencerStep_ignoresOpen {f : State → State} (hf : IgnoresOpen f) : EventIgnoresOpen (sequencerStep f) := by
  intro o s t h
  cases h
  rw [sequencerStep, hf]
  rfl

theorem ordinaryStep_ignoresOpen {acts : Nat → State → State} (hacts : ∀ n, IgnoresOpen (acts n)) :
    EventIgnoresOpen (ordinaryStep acts) :=
  sequencerStep_ignoresOpen (.ite (fun _ _ => rfl) fun o s => hacts s.stepIx o s)

/-- A write and no statement after it. -/
theorem writeOnly_ignoresOpen {reg v : State → Byte} (hreg : Unread reg := by exact fun _ _ => rfl)
    (hv : Unread v := by exact fun _ _ => rfl) :
    IgnoresOpen fun s => xfer (busWrite (reg s) (v s)) (fun _ s => s) s :=
  write_ignoresOpen (fun _ _ _ _ => rfl) hreg hv

theorem initStart_ignoresOpen : IgnoresOpen initStart :=
  .ite (failAtOnce_ignoresOpen _ _)
    (.ite (failAtOnce_ignoresOpen _ _)
      (IgnoresOpen.comp
        (g := fun s => xfer (busWrite s.params.A_PWR_MGMT_1 s.params.V_DEVICE_RESET) (fun _ s => s) s)
        writeOnly_ignoresOpen fun _ _ => rfl))

theorem execInit_ignoresOpen : EventIgnoresOpen execInit :=
  ordinaryStep_ignoresOpen fun
    | 0 => initStart_ignoresOpen
    | 1 => fun _ _ => rfl
    | 2 => write_ignoresOpen fun _ _ _ _ => rfl
    | 3 => write_ignoresOpen fun _ _ _ _ => rfl
    | 4 => writeOnly_ignoresOpen
    | 5 => write_ignoresOpen fun _ _ _ _ => rfl
    | _ + 6 => complete_ignoresOpen

theorem execWrreg_ignoresOpen (reg data : Byte) : EventIgnoresOpen (execWrreg reg data) :=
  ordinaryStep_ignoresOpen fun
    | 0 => writeOnly_ignoresOpen
    | _ + 1 => complete_ignoresOpen

theorem execRdreg_ignoresOpen (reg : Byte) : EventIgnoresOpen (execRdreg reg) :=
  ordinaryStep_ignoresOpen fun
    | 0 => read_ignoresOpen fun _ _ _ _ => rfl
    | _ + 1 => complete_ignoresOpen

theorem execRdblk_ignoresOpen (reg len : Byte) : EventIgnoresOpen (execRdblk reg len) :=
  ordinaryStep_ignoresOpen fun
    | 0 => .ite (.xfer (fun _ => busReadBlock_ignoresOpen reg len.toNat) fun _ _ _ _ => rfl)
        (failAtOnce_ignoresOpen _ _)
    | _ + 1 => complete_ignoresOpen

theorem execFifoOn_ignoresOpen : EventIgnoresOpen execFifoOn :=
  ordinaryStep_ignoresOpen fun
    | 0 | 1 | 2 | 3 => writeOnly_ignoresOpen
    | _ + 4 => complete_ignoresOpen

theorem execFifoOff_ignoresOpen : EventIgnoresOpen execFifoOff :=
  ordinaryStep_ignoresOpen fun
    | 0 => writeOnly_ignoresOpen
    | _ + 1 => complete_ignoresOpen

theorem execFifoReset_ignoresOpen : EventIgnoresOpen execFifoReset :=
  ordinaryStep_ignoresOpen fun
    | 0 | 1 | 2 => writeOnly_ignoresOpen
    | _ + 3 => complete_ignoresOpen

theorem execRdstatus_ignoresOpen : EventIgnoresOpen execRdstatus :=
  ordinaryStep_ignoresOpen fun
    | 0 => read_ignoresOpen fun _ _ _ _ => rfl
    | _ + 1 => complete_ignoresOpen

theorem execRdcount_ignoresOpen : EventIgnoresOpen execRdcount :=
  ordinaryStep_ignoresOpen fun
    | 0 => read_ignoresOpen fun _ _ _ _ => rfl
    | 1 => read_ignoresOpen fun _ _ _ _ => rfl
    | _ + 2 => complete_ignoresOpen

theorem execDrain_ignoresOpen : EventIgnoresOpen execDrain :=
  ordinaryStep_ignoresOpen fun
    | 0 => .ite (fun _ _ => rfl) (drainXfer_ignoresOpen fun _ _ _ => rfl)
    | _ + 1 => complete_ignoresOpen

theorem execDecodeFrame_ignoresOpen (len : Byte) : EventIgnoresOpen (execDecodeFrame len) :=
  ordinaryStep_ignoresOpen fun
    | 0 => .ite (fun _ _ => rfl) (failAtOnce_ignoresOpen _ _)
    | _ + 1 => complete_ignoresOpen

theorem exec_ignoresOpen (i : Instr) : EventIgnoresOpen (exec i) := by
  cases i with
  | nop => exact ordinaryStep_ignoresOpen (acts := fun _ => complete) fun _ => complete_ignoresOpen
  | wrreg reg data => exact execWrreg_ignoresOpen reg data
  | rdreg reg => exact execRdreg_ignoresOpen reg
  | rdblk reg len => exact execRdblk_ignoresOpen reg len
  | init => exact execInit_ignoresOpen
  | fifoOn => exact execFifoOn_ignoresOpen
  | fifoOff => exact execFifoOff_ignoresOpen
  | fifoReset => exact execFifoReset_ignoresOpen
  | rdstatus => exact execRdstatus_ignoresOpen
  | rdcount => exact execRdcount_ignoresOpen
  | drain => exact execDrain_ignoresOpen
  | decodeFrame len => exact execDecodeFrame_ignoresOpen len
  | acquire =>
    exact sequencerStep_ignoresOpen (f := fun s => acqPhaseStep s.phase s) fun o s =>
      acqPhaseStep_ignoresOpen s.phase o s

/-! ### Events (20_memory.md R73) -/

theorem sequencerTurn_ignoresOpen : EventIgnoresOpen sequencerTurn := by
  intro o s t h
  have hbusy : (s.reopen o).busy = s.busy := rfl
  have hcmd : (s.reopen o).cmd = s.cmd := rfl
  unfold sequencerTurn at h ⊢
  rw [hbusy, hcmd]
  cases hb : s.busy with
  | false =>
    rw [hb] at h
    cases h
    rfl
  | true =>
    rw [hb] at h
    cases hd : decode s.cmd with
    | ok i =>
      rw [hd] at h
      exact exec_ignoresOpen i o s t h
    | error e =>
      rw [hd] at h
      exact sequencerStep_ignoresOpen (failAtOnce_ignoresOpen _ _) o s t h

/-- No choice of a host write is on a parameter, and each of its updates keeps them. -/
theorem hostWrite_ignoresOpen (off : Offset) (v : Word) : IgnoresOpen (hostWrite off v) :=
  .ite (fun _ _ => rfl) (.ite (.ite (fun _ _ => rfl) (.ite (fun _ _ => rfl) (.ite (fun _ _ => rfl)
    (.ite (fun _ _ => rfl) (.ite (fun _ _ => rfl) fun _ _ => rfl))))) fun _ _ => rfl)

theorem hostTurn_ignoresOpen : EventIgnoresOpen hostTurn := by
  intro o s t h
  cases hs : s.host with
  | nil =>
    have hs' : (s.reopen o).host = [] := hs
    simp only [hostTurn, hs] at h
    cases h
    simp only [hostTurn, hs']
  | cons x rest =>
    have hs' : (s.reopen o).host = x :: rest := hs
    cases x with
    | ld off width =>
      rw [hostTurn_ld hs] at h
      rw [hostTurn_ld hs']
      split at h
      · next hsup =>
        cases h
        exact if_pos hsup
      · cases h
    | st off width v =>
      rw [hostTurn_st hs] at h
      rw [hostTurn_st hs']
      split at h
      · next hsup =>
        cases h
        rw [if_pos hsup]
        exact congrArg Host.Outcome.next (hostWrite_ignoresOpen off v o { s with host := rest })
      · cases h
    | poll =>
      simp only [hostTurn, hs] at h
      cases h
      simp only [hostTurn, hs']
      rfl

theorem step_ignoresOpen : EventIgnoresOpen step := by
  intro o s t h
  have hturns : (s.reopen o).turns = s.turns := rfl
  have hbusy : (s.reopen o).busy = s.busy := rfl
  unfold step at h ⊢
  rw [hturns, hbusy]
  split at h
  · exact hostTurn_ignoresOpen o _ t h
  · exact sequencerTurn_ignoresOpen o _ t h
  · cases h
    rfl
  · split at h
    · next hb =>
      rw [if_pos hb]
      exact sequencerTurn_ignoresOpen o s t h
    · next hb =>
      rw [if_neg hb]
      exact hostTurn_ignoresOpen o s t h

/-- Settles O56: the event is one that reads no OPEN parameter. -/
theorem openParametersDoNotMatter : Obligations.OpenParametersDoNotMatter :=
  fun s t busKind base settle resetSettle => step_ignoresOpen ⟨busKind, base, settle, resetSettle⟩ s t

end Sys2Proof.Machine
end

section
/-! PROOF. The sensor driver commands against a sensor that answers Ok: the transactions of each command in order, then
its completion (41_sensor_driver.md R130 to R139), and the checks that end a command before any transaction. -/

namespace Sys2Proof.Machine

open Sys2Proof.Config

/-! ### One step of an ordinary command (43_control.md R202) -/

/-- A step that is one successful write in the state `u`, with the statements `k` after it. -/
theorem ordinaryStep_writeThen_of_ok {acts : Nat → State → State} {s u : State} {n : Nat} {reg v : Byte}
    {k : Unit → State → State} {l : List Byte} {rest : List SensorAnswer} (he : s.errInfo = .zero) (hn : s.stepIx = n)
    (hacts : acts n s = xfer (busWrite reg v) k u) (hu : u.sensor = .ok l :: rest) :
    ordinaryStep acts s = .next (tick (k () (delivered (.write u.dev reg v) [] rest u))) := by
  rw [ordinaryStep_at he hn, hacts, xfer_of_ok (busWrite_of_ok hu reg v)]
  rfl

/-- A step that is one successful write with no statement after it. -/
theorem ordinaryStep_write_of_ok {acts : Nat → State → State} {s : State} {n : Nat} {reg v : Byte} {l : List Byte}
    {rest : List SensorAnswer} (he : s.errInfo = .zero) (hn : s.stepIx = n)
    (hacts : acts n s = xfer (busWrite reg v) (fun _ s => s) s) (hs : s.sensor = .ok l :: rest) :
    ordinaryStep acts s = .next (afterOk (.write s.dev reg v) [] rest s) :=
  ordinaryStep_writeThen_of_ok he hn hacts hs

/-- A step that completes the command. -/
theorem ordinaryStep_complete {acts : Nat → State → State} {s : State} {n : Nat} (he : s.errInfo = .zero)
    (hn : s.stepIx = n) (hacts : acts n s = complete s) : ordinaryStep acts s = .next (ended s) := by
  rw [ordinaryStep_at he hn, hacts]
  rfl

/-- A step that fails its check before any transaction, outside a cycle of ACQUIRE. -/
theorem ordinaryStep_failAtOnce {acts : Nat → State → State} {s : State} {n : Nat} {kind : ErrKind} {sub : BitVec 4}
    (he : s.errInfo = .zero) (hn : s.stepIx = n) (hp : s.phase.inCycle = false)
    (hacts : acts n s = failAtOnce kind sub s) :
    ordinaryStep acts s = .next (ended (recorded kind sub 0 0 s)) := by
  rw [ordinaryStep_at he hn, hacts, failAtOnce_of_outside hp]
  rfl

/-! ### The FIFO commands (41_sensor_driver.md R132 to R134, R139) -/

/-- Settles O26: each step is the write, or the completion, that the command lists at its step index. -/
theorem fifoSequences : Obligations.FifoSequences := by
  unfold Obligations.FifoSequences exec
  refine fun s l rest he hs => ⟨fun hn => ⟨?_, ?_⟩, fun hn => ⟨?_, ?_⟩, fun hn => ⟨?_, ?_⟩, fun hn => ⟨?_, ?_⟩,
    fun hn => ?_⟩
  · exact ordinaryStep_write_of_ok he hn rfl hs
  · exact ordinaryStep_write_of_ok he hn rfl hs
  · exact ordinaryStep_write_of_ok he hn rfl hs
  · exact ordinaryStep_write_of_ok he hn rfl hs
  · exact ordinaryStep_write_of_ok he hn rfl hs
  · exact ordinaryStep_write_of_ok he hn rfl hs
  · exact ordinaryStep_complete he hn rfl
  · exact ordinaryStep_write_of_ok he hn rfl hs
  · exact ordinaryStep_complete he hn rfl

/-- Settles O27: the one write, then the completion. -/
theorem fifoOffWritesOnce : Obligations.FifoOffWritesOnce := by
  unfold Obligations.FifoOffWritesOnce exec
  exact fun _ _ _ he h0 hs =>
    ⟨ordinaryStep_write_of_ok he h0 rfl hs, ordinaryStep_complete he (congrArg (· + 1) h0) rfl⟩

/-! ### RDSTATUS and RDCOUNT (41_sensor_driver.md R135, R136, R147) -/

/-- A step that is one successful read with the statements `k` after it. -/
theorem ordinaryStep_read_of_ok {acts : Nat → State → State} {s : State} {n : Nat} {reg b : Byte}
    {k : Byte → State → State} {rest : List SensorAnswer} (he : s.errInfo = .zero) (hn : s.stepIx = n)
    (hacts : acts n s = xfer (busRead reg) k s) (hs : s.sensor = .ok [b] :: rest) :
    ordinaryStep acts s = .next (tick (k b (delivered (.read s.dev reg) [b] rest s))) := by
  rw [ordinaryStep_at he hn, hacts, xfer_of_ok (busRead_of_ok hs reg)]
  rfl

/-- Settles O28: the byte goes to its two fields unexamined, and the next step completes. -/
theorem rdstatusCachesTheByte : Obligations.RdstatusCachesTheByte := by
  unfold Obligations.RdstatusCachesTheByte exec
  exact fun _ _ _ he h0 hs =>
    ⟨(ordinaryStep_read_of_ok he h0 rfl hs).trans rfl, ordinaryStep_complete he (congrArg (· + 1) h0) rfl⟩

theorem combineCount_toNat (high low : Byte) : (combineCount high low).toNat = high.toNat * 256 + low.toNat := by
  rw [combineCount, BitVec.toNat_append, ← Nat.shiftLeft_add_eq_or_of_lt low.isLt, Nat.shiftLeft_eq]

theorem combineCount_eq_ofNat (high low : Byte) :
    combineCount high low = BitVec.ofNat 16 (high.toNat * 256 + low.toNat) := by
  rw [← combineCount_toNat, BitVec.ofNat_toNat, BitVec.setWidth_eq]

theorem misaligned_combineCount (high low : Byte) :
    misaligned (combineCount high low) = decide ((high.toNat * 256 + low.toNat) % 6 ≠ 0) := by
  rw [misaligned, combineCount_toNat, decide_not]
  rfl

/-- The two statements of read_count on its two bytes, in numbers (R147). -/
theorem setCount_eq (high low : Byte) (s : State) :
    setCount high low s =
      { s with
        fifoCnt := BitVec.ofNat 16 (high.toNat * 256 + low.toNat)
        cntMisaligned := s.cntMisaligned || decide ((high.toNat * 256 + low.toNat) % 6 ≠ 0) } := by
  rw [setCount, misaligned_combineCount, combineCount_eq_ofNat]

/-- Settles O29: the high byte waits in `cntHigh`, and the low byte's step combines the two. -/
theorem rdcountRefreshesTheCount : Obligations.RdcountRefreshesTheCount := by
  unfold Obligations.RdcountRefreshesTheCount exec
  intro s h l rest he h0 hs t1 t2
  refine ⟨(ordinaryStep_read_of_ok he h0 rfl hs).trans rfl, ?_, ordinaryStep_complete he (congrArg (· + 2) h0) rfl⟩
  have hlow : execRdcount t1 =
      .next (tick (setCount h l (delivered (.read t1.dev t1.params.A_FIFO_COUNTL) [l] rest t1))) :=
    ordinaryStep_read_of_ok he (congrArg (· + 1) h0) rfl rfl
  rw [hlow, setCount_eq]
  rfl

/-! ### DRAIN (41_sensor_driver.md R137, R148) -/

theorem length_le_of_fitsBlock {p : Params} {n : Nat} {l : List Byte} (h : FitsBlock p n l) : l.length ≤ n := by
  unfold FitsBlock at h
  split at h
  · exact h.2
  · exact h.le

/-- Byte `i` of a list that has been written. -/
theorem Memory.getElem?_eq_read_writeBytes {m : Memory} (hw : m.wf = true) (a : Nat) {l : List Byte} {i : Nat}
    (hi : i < l.length) : l[i]? = some ((m.writeBytes a l).read (a + i)) := by
  rw [Memory.read_writeBytes hw, dif_pos ⟨Nat.le_add_right _ _, Nat.add_lt_add_left hi _⟩]
  simp [hi]

/-- FIFOCNT falls by the number of bytes read and does not wrap. -/
theorem fifoCnt_sub_length {c : Half} {n : Nat} (h : n ≤ c.toNat) :
    c - BitVec.ofNat 16 n = BitVec.ofNat 16 (c.toNat - n) := by
  rw [← BitVec.ofNat_sub_ofNat_of_le _ _ (by omega) h, BitVec.ofNat_toNat, BitVec.setWidth_eq]

theorem drainLength_eq_zero_iff (s : State) : drainLength s = 0 ↔ s.fifoCnt = 0 := by
  simp only [drainLength, P_MAX_BURST, P_FRAME, P_BLOCK_MAX, ← BitVec.toNat_inj, BitVec.ofNat_eq_ofNat,
    BitVec.toNat_ofNat]
  omega

theorem execDrain_empty {s : State} (he : s.errInfo = .zero) (h0 : s.stepIx = 0) (hc : s.fifoCnt = 0) :
    execDrain s = .next { ended s with lastLen := 0 } := by
  refine (ordinaryStep_at he h0).trans ?_
  simp only [if_pos ((drainLength_eq_zero_iff s).2 hc)]
  rfl

/-- The burst: the bytes go to DATABUF, their number to LASTLEN and off FIFOCNT. -/
theorem execDrain_burst {s : State} {l : List Byte} {rest : List SensorAnswer} (he : s.errInfo = .zero)
    (h0 : s.stepIx = 0) (hc : s.fifoCnt ≠ 0) (hfit : FitsBlock s.params (drainLength s) l)
    (hs : s.sensor = .ok l :: rest) :
    execDrain s = .next
      { afterOk (.readBlock s.dev s.params.A_FIFO_R_W (drainLength s)) l rest s with
        mem := s.mem.writeBytes databufBase l, lastLen := BitVec.ofNat 6 l.length,
        fifoCnt := s.fifoCnt - BitVec.ofNat 16 l.length } := by
  refine (ordinaryStep_at he h0).trans ?_
  simp only [if_neg (mt (drainLength_eq_zero_iff s).1 hc), drainXfer]
  rw [xfer_of_ok (busReadBlock_of_ok hfit hs _)]
  rfl

/-- Settles O30: the burst's length bounds what the sensor delivers, so FIFOCNT does not wrap. -/
theorem drainReadsOneBurst : Obligations.DrainReadsOneBurst := by
  unfold Obligations.DrainReadsOneBurst exec
  refine fun s he h0 => ⟨execDrain_empty he h0, fun l rest hc hw hfit hs => ?_⟩
  have hlen : l.length ≤ min s.fifoCnt.toNat 30 := length_le_of_fitsBlock hfit
  have hburst := execDrain_burst he h0 hc hfit hs
  rw [fifoCnt_sub_length (hlen.trans (Nat.min_le_left _ _))] at hburst
  refine ⟨s.mem.writeBytes databufBase l, hburst, hlen.trans (Nat.min_le_right _ _), hlen.trans (Nat.min_le_left _ _),
    fun i => Memory.getElem?_eq_read_writeBytes hw databufBase, fun a => Memory.read_writeBytes_of_outside hw,
    fun t ht => ?_⟩
  cases hburst.symm.trans ht
  exact ordinaryStep_complete he (congrArg (· + 1) h0) rfl

/-! ### DECODE (41_sensor_driver.md R138) -/

/-- Settles O31: the length check is the first statement; a decoded frame completes the command in the same step. -/
theorem decodeCommand : Obligations.DecodeCommand := by
  unfold Obligations.DecodeCommand exec
  refine fun s he h0 => ⟨ordinaryStep_at he h0, fun len hlen hp => ?_⟩
  have hframe : len.toNat ≠ P_FRAME := fun h => hlen (BitVec.eq_of_toNat_eq h)
  exact ordinaryStep_failAtOnce he h0 hp (if_neg hframe)

/-! ### INIT (41_sensor_driver.md R130, R131) -/

theorem legalRange_iff (r : Byte) : legalRange r = true ↔ r = 2 ∨ r = 4 ∨ r = 8 ∨ r = 16 := by
  simp [legalRange, or_assoc]

theorem initStart_of_illegalRange {s : State} (h : legalRange s.rangeG = false) :
    initStart s = failAtOnce .configuration 1 s := by
  simp [initStart, h]

theorem initStart_of_zeroRate {s : State} (h : legalRange s.rangeG = true) (ht : s.targetRate = 0) :
    initStart s = failAtOnce .configuration 2 s := by
  simp [initStart, h, ht]

theorem initStart_of_valid {s : State} (h : legalRange s.rangeG = true) (ht : s.targetRate ≠ 0) :
    initStart s =
      xfer (busWrite s.params.A_PWR_MGMT_1 s.params.V_DEVICE_RESET) (fun _ s => s) { s with initDone := false } := by
  rw [initStart, if_neg (by simp [h]), if_neg ht]

/-- Settles O25: the first check that fails is the error of INIT's first step. -/
theorem initValidationOrder : Obligations.InitValidationOrder := by
  unfold Obligations.InitValidationOrder exec
  intro s he h0 hp
  have hout : s.phase.inCycle = false := by rw [hp]; rfl
  refine ⟨fun hrange => ?_, fun hrange hrate => ?_⟩
  · have hillegal : legalRange s.rangeG = false :=
      Bool.eq_false_iff.2 (mt (legalRange_iff _).1 (by simpa only [not_or] using hrange))
    exact ordinaryStep_failAtOnce he h0 hout (initStart_of_illegalRange hillegal)
  · exact ordinaryStep_failAtOnce he h0 hout (initStart_of_zeroRate ((legalRange_iff _).2 hrange) hrate)

/-! The steps of INIT when every write succeeds (43_control.md R205). -/

theorem execInit_reset {s : State} {l : List Byte} {rest : List SensorAnswer} (he : s.errInfo = .zero)
    (hn : s.stepIx = 0) (hrange : legalRange s.rangeG = true) (hrate : s.targetRate ≠ 0)
    (hs : s.sensor = .ok l :: rest) :
    execInit s = .next
      { afterOk (.write s.dev s.params.A_PWR_MGMT_1 s.params.V_DEVICE_RESET) [] rest s with initDone := false } :=
  (ordinaryStep_writeThen_of_ok (u := { s with initDone := false }) he hn
    (initStart_of_valid hrange hrate) hs).trans rfl

theorem execInit_settle {s : State} (he : s.errInfo = .zero) (hn : s.stepIx = 1) : execInit s = .next (tick s) :=
  ordinaryStep_at he hn

theorem execInit_divisor {s : State} {l : List Byte} {rest : List SensorAnswer} (he : s.errInfo = .zero)
    (hn : s.stepIx = 2) (hs : s.sensor = .ok l :: rest) :
    execInit s = .next
      { afterOk (.write s.dev s.params.A_SMPLRT_DIV (divcalc s.targetRate)) [] rest s with
        divisor := divcalc s.targetRate } :=
  (ordinaryStep_writeThen_of_ok he hn rfl hs).trans rfl

theorem execInit_scale {s : State} {l : List Byte} {rest : List SensorAnswer} (he : s.errInfo = .zero)
    (hn : s.stepIx = 3) (hs : s.sensor = .ok l :: rest) :
    execInit s = .next
      { afterOk (.write s.dev s.params.A_ACCEL_CONFIG (fsCodeOf s.rangeG)) [] rest s with
        fsCode := fsCodeOf s.rangeG, range := s.rangeG } :=
  (ordinaryStep_writeThen_of_ok he hn rfl hs).trans rfl

theorem execInit_clock {s : State} {l : List Byte} {rest : List SensorAnswer} (he : s.errInfo = .zero)
    (hn : s.stepIx = 4) (hs : s.sensor = .ok l :: rest) :
    execInit s = .next (afterOk (.write s.dev s.params.A_PWR_MGMT_1 s.params.V_CLK_PLL) [] rest s) :=
  ordinaryStep_write_of_ok he hn rfl hs

theorem execInit_enable {s : State} {l : List Byte} {rest : List SensorAnswer} (he : s.errInfo = .zero)
    (hn : s.stepIx = 5) (hs : s.sensor = .ok l :: rest) :
    execInit s = .next
      { afterOk (.write s.dev s.params.A_INT_ENABLE s.params.V_INT_ENABLE) [] rest s with initDone := true } :=
  (ordinaryStep_writeThen_of_ok he hn rfl hs).trans rfl

theorem execInit_complete {s : State} (he : s.errInfo = .zero) (hn : s.stepIx = 6) : execInit s = .next (ended s) :=
  ordinaryStep_complete he hn rfl

/-- The first of several steps of INIT, and what the others do after it. -/
theorem execN_init_succ {s t : State} {k : Nat} {o : Host.Outcome State Fault Refusal} (h : execInit s = .next t)
    (ho : execN k .init t = o) : execN (k + 1) .init s = o := by
  simp only [execN, exec, h, ho]

/-- The ranges with their full-scale codes (R144). -/
theorem legalRange_and_fsCode {r code : Byte}
    (h : r = 2 ∧ code = 0 ∨ r = 4 ∧ code = 8 ∨ r = 8 ∧ code = 16 ∨ r = 16 ∧ code = 24) :
    legalRange r = true ∧ code = fsCodeOf r := by
  rcases h with ⟨rfl, rfl⟩ | ⟨rfl, rfl⟩ | ⟨rfl, rfl⟩ | ⟨rfl, rfl⟩ <;> exact ⟨rfl, rfl⟩

/-- Settles O24: the seven steps one after another, each from the state the step before it left. -/
theorem initProgramsTheSensor : Obligations.InitProgramsTheSensor := by
  intro s code l0 l1 l2 l3 l4 rest hacc hrange hrate hs
  obtain ⟨-, -, he, h0, hx⟩ := hacc
  obtain ⟨hlegal, rfl⟩ := legalRange_and_fsCode hrange
  have hreset := execInit_reset he h0 hlegal hrate hs
  have hat {t : State} {n : Nat} (ht : t.stepIx = s.stepIx + n) : t.stepIx = n := by rw [ht, h0, Nat.zero_add]
  refine ⟨hreset, execN_init_succ hreset ?_⟩
  refine execN_init_succ (execInit_settle he (hat rfl)) ?_
  refine execN_init_succ (execInit_divisor he (hat rfl) rfl) ?_
  refine execN_init_succ (execInit_scale he (hat rfl) rfl) ?_
  refine execN_init_succ (execInit_clock he (hat rfl) rfl) ?_
  refine execN_init_succ (execInit_enable he (hat rfl) rfl) ?_
  refine execN_init_succ (execInit_complete he (hat rfl)) ?_
  simp only [execN, ended, afterOk, tick, h0, hx]

end Sys2Proof.Machine
end

section
/-! PROOF. The pure functions: the rounding and the divisor, the frame decoder, and the exact rationals
(41_sensor_driver.md R140 to R146, 00_scope.md R17). -/

namespace Sys2Proof.Machine

open Sys2Proof.Config

/-! ### The divisor calculator (41_sensor_driver.md R140 to R142) -/

/-- Everything the rounding can answer: the quotient below the half, the next integer above it, and at the half the even
one of the two. -/
theorem roundHalfEven_cases (t : Nat) :
    (2 * (8000 % t) < t ∧ roundHalfEven t = 8000 / t) ∨
    (t < 2 * (8000 % t) ∧ roundHalfEven t = 8000 / t + 1) ∨
    (2 * (8000 % t) = t ∧ roundHalfEven t % 2 = 0 ∧
      (roundHalfEven t = 8000 / t ∨ roundHalfEven t = 8000 / t + 1)) := by
  simp only [roundHalfEven, P_BASE_RATE]
  split
  · next hlt => exact .inl ⟨hlt, rfl⟩
  · next hge =>
    split
    · next hgt => exact .inr (.inl ⟨hgt, rfl⟩)
    · next hle =>
      refine .inr (.inr ⟨by omega, ?_⟩)
      split
      · next heven => exact ⟨heven, .inl rfl⟩
      · next hodd => exact ⟨by omega, .inr rfl⟩

/-- Settles O57: with `8000 = t * a + r`, the distance from `t * a` is `r` and from `t * (a + 1)` it is `t - r`. -/
theorem roundingIsHalfEven : Obligations.RoundingIsHalfEven := by
  intro t ht
  have hlt : 8000 % t < t := Nat.mod_lt _ ht
  have hdiv : t * (8000 / t) + 8000 % t = 8000 := Nat.div_add_mod 8000 t
  have hcases := roundHalfEven_cases t
  generalize 8000 / t = a at hcases hdiv
  generalize 8000 % t = r at hcases hlt hdiv
  zify at hdiv
  rcases hcases with ⟨hr, e⟩ | ⟨hr, e⟩ | ⟨hr, heven, e | e⟩
  · rw [e]
    refine ⟨by linarith, by linarith, ?_⟩
    rintro (htie | htie) <;> exfalso <;> linarith
  · rw [e]
    push_cast
    refine ⟨by linarith, by linarith, ?_⟩
    rintro (htie | htie) <;> exfalso <;> linarith
  · refine ⟨?_, ?_, fun _ => heven⟩ <;> rw [e] <;> linarith
  · refine ⟨?_, ?_, fun _ => heven⟩ <;> rw [e] <;> push_cast <;> linarith

theorem ofInt_clampDivisor_toNat (q : Nat) : ((BitVec.ofInt 8 (clampDivisor q)).toNat : Int) = clampDivisor q := by
  have hlo : 0 ≤ clampDivisor q := le_max_left _ _
  have hhi : clampDivisor q ≤ 255 := max_le (by decide) (min_le_left _ _)
  rw [BitVec.toNat_ofInt]
  omega

/-- The calculator's value for a rate that INIT accepts, which fits a byte. -/
theorem divcalc_toNat {t : Half} (ht : t ≠ 0) :
    ((divcalc t).toNat : Int) = max 0 (min 255 ((roundHalfEven t.toNat : Int) - 1)) := by
  rw [divcalc, if_neg ht, ofInt_clampDivisor_toNat]
  rfl

/-- The rounding is at most `k` where 8000/t lies below `k + 1/2`. -/
theorem roundHalfEven_le {t k : Nat} (ht : 1 ≤ t) (h : 16000 < (2 * k + 1) * t) : roundHalfEven t ≤ k := by
  obtain ⟨-, hup, -⟩ := roundingIsHalfEven t ht
  by_contra hlt
  have hle : (2 * k + 1) * (t : Int) ≤ (2 * (roundHalfEven t : Int) - 1) * t :=
    mul_le_mul_of_nonneg_right (by omega) (Int.natCast_nonneg t)
  zify at h
  linarith

/-- The rounding is above `k` where 8000/t lies above `k + 1/2`. -/
theorem lt_roundHalfEven {t k : Nat} (ht : 1 ≤ t) (h : (2 * k + 1) * t < 16000) : k < roundHalfEven t := by
  obtain ⟨hlow, -, -⟩ := roundingIsHalfEven t ht
  by_contra hge
  have hle : (2 * (roundHalfEven t : Int) + 1) * t ≤ (2 * k + 1) * t :=
    mul_le_mul_of_nonneg_right (by omega) (Int.natCast_nonneg t)
  zify at h
  linarith

/-- R142; at 16000 itself 8000/t is an exact half, and 0 is the even one. -/
theorem roundHalfEven_eq_zero {t : Nat} (h : 16000 ≤ t) : roundHalfEven t = 0 := by
  rcases h.eq_or_lt with rfl | hlt
  · decide
  · exact Nat.le_zero.1 (roundHalfEven_le (by omega) (by omega))

/-- Settles O58: the clamp, on the bounds that the rounding law gives at the thresholds of R142. -/
theorem divisorCalculator : Obligations.DivisorCalculator := by
  intro t ht
  have hpos : 1 ≤ t.toNat := Nat.pos_of_ne_zero fun h => ht (BitVec.eq_of_toNat_eq h)
  have hclamp := divcalc_toNat ht
  have hlow (hle : t.toNat ≤ 31) : 257 ≤ roundHalfEven t.toNat := lt_roundHalfEven (k := 256) hpos (by omega)
  refine ⟨hclamp, roundHalfEven_eq_zero, hlow, fun hge => BitVec.eq_of_toNat_eq ?_,
    fun hle => BitVec.eq_of_toNat_eq ?_⟩
  · have hq : roundHalfEven t.toNat ≤ 1 := roundHalfEven_le hpos (by omega)
    have hzero : (0 : Byte).toNat = 0 := rfl
    omega
  · have hq := hlow hle
    have hmax : (255 : Byte).toNat = 255 := rfl
    omega

/-! ### The frame decoder (41_sensor_driver.md R146) -/

theorem toInt_pair (hi lo : Byte) : (hi ++ lo : Half).toInt = hi.toInt * 256 + lo.toNat := by
  rw [BitVec.toInt_append]
  simp [Int.mul_comm]

/-- Settles O59: each lane is its own two bytes, the first one signed. -/
theorem frameDecodeIsBigEndian : Obligations.FrameDecodeIsBigEndian := fun b0 b1 b2 b3 b4 b5 =>
  ⟨toInt_pair b0 b1, toInt_pair b2 b3, toInt_pair b4 b5⟩

/-! ### Rates and physical values (41_sensor_driver.md R143, R144, 00_scope.md R17) -/

theorem achievedRate_mul (d : Byte) : achievedRate d * ((d.toNat : Rat) + 1) = 8000 := by
  have hne : (d.toNat : Rat) + 1 ≠ 0 := by positivity
  rw [achievedRate, div_mul_cancel₀ _ hne]
  norm_num

theorem le_achievedRate (d : Byte) : 31.25 ≤ achievedRate d := by
  have hpos : (0 : Rat) < (d.toNat : Rat) + 1 := by positivity
  have hle : (d.toNat : Rat) ≤ 255 := by exact_mod_cast Nat.le_of_lt_succ d.isLt
  rw [achievedRate, le_div_iff₀ hpos]
  norm_num
  linarith

theorem achievedRate_le (d : Byte) : achievedRate d ≤ 8000 :=
  div_le_self (by norm_num) (by linarith [Nat.cast_nonneg (α := Rat) d.toNat])

theorem physical_mul (c : Half) (r : Byte) : physical c r * 32768 = (c.toInt : Rat) * r.toNat := by
  simp only [physical, scaleFactor, P_SCALE_DEN]
  push_cast
  ring

theorem abs_toInt_le (c : Half) : |(c.toInt : Rat)| ≤ 32768 := by
  have hlo : -32768 ≤ c.toInt := BitVec.le_toInt c
  have hhi : c.toInt < 32768 := BitVec.toInt_lt
  rw [abs_le]
  constructor
  · exact_mod_cast hlo
  · exact_mod_cast hhi.le

/-- A raw code stands for at most full scale (R17). -/
theorem abs_physical_le (c : Half) (r : Byte) : |physical c r| ≤ r.toNat := by
  have h : |physical c r| * 32768 ≤ r.toNat * 32768 :=
    calc |physical c r| * 32768 = |physical c r * 32768| := by rw [abs_mul]; norm_num
      _ = |(c.toInt : Rat)| * r.toNat := by rw [physical_mul, abs_mul, Nat.abs_cast]
      _ ≤ 32768 * r.toNat := mul_le_mul_of_nonneg_right (abs_toInt_le c) (Nat.cast_nonneg _)
      _ = r.toNat * 32768 := mul_comm _ _
  exact le_of_mul_le_mul_right h (by norm_num)

theorem scaleFactor_of_toNat {r : Byte} {n : Nat} (h : r.toNat = n) : scaleFactor r = n / 32768 := by
  rw [scaleFactor, h]
  norm_num

/-- Settles O60: the laws of the three rational functions. -/
theorem ratesAndPhysicalValues : Obligations.RatesAndPhysicalValues :=
  ⟨fun d => ⟨le_achievedRate d, achievedRate_le d, achievedRate_mul d⟩,
    (scaleFactor_of_toNat (n := 2) rfl).trans (by norm_num), (scaleFactor_of_toNat (n := 4) rfl).trans (by norm_num),
    (scaleFactor_of_toNat (n := 8) rfl).trans (by norm_num), (scaleFactor_of_toNat (n := 16) rfl).trans (by norm_num),
    fun c r => ⟨physical_mul c r, abs_le.1 (abs_physical_le c r)⟩⟩

end Sys2Proof.Machine
end

section
/-! PROOF. The phases of ACQUIRE one by one, against listed answers: the start checks, the arming writes, a poll, the
count refresh and the completion write (42_batch_sampler.md R171 to R181, R185). -/

namespace Sys2Proof.Machine

open Sys2Proof.Config

/-! ### One step of ACQUIRE (42_batch_sampler.md R181) -/

/-- A step of ACQUIRE is the step of its phase. -/
theorem exec_acquire_at {s : State} {p : Phase} (hp : s.phase = p) :
    exec .acquire s = .next (tick (acqPhaseStep p s)) := by
  subst hp
  rfl

/-- A write answered Ok, with the statements `k` after it. -/
theorem xfer_busWrite_of_ok {s : State} {l : List Byte} {rest : List SensorAnswer} (hs : s.sensor = .ok l :: rest)
    (reg v : Byte) (k : Unit → State → State) :
    xfer (busWrite reg v) k s = k () (delivered (.write s.dev reg v) [] rest s) :=
  xfer_of_ok (busWrite_of_ok hs reg v)

/-- A read answered with one byte, with the statements `k` after it. -/
theorem xfer_busRead_of_ok {s : State} {b : Byte} {rest : List SensorAnswer} (hs : s.sensor = .ok [b] :: rest)
    (reg : Byte) (k : Byte → State → State) :
    xfer (busRead reg) k s = k b (delivered (.read s.dev reg) [b] rest s) :=
  xfer_of_ok (busRead_of_ok hs reg)

/-! ### The start checks (42_batch_sampler.md R171) -/

theorem legalBatch_iff (n : Half) : legalBatch n = true ↔ 1 ≤ n.toNat ∧ n.toNat ≤ 2048 := by
  simp [legalBatch]

theorem acqStart_of_not_initDone {s : State} (h : s.initDone = false) :
    acqStart s = failAtOnce .notInitialized 0 s := by
  simp [acqStart, h]

theorem acqStart_of_illegalBatch {s : State} (h : s.initDone = true) (hn : ¬ legalBatch s.nsamp = true) :
    acqStart s = failAtOnce .configuration 3 s := by
  simp [acqStart, h, hn]

theorem acqStart_of_checked {s : State} (h : s.initDone = true) (hn : legalBatch s.nsamp = true) :
    acqStart s = acqArm0 (startCycle s) := by
  simp [acqStart, h, hn]

/-- A failing start check is the error and its completion in one step. -/
theorem exec_acquire_of_failing_check {s : State} {kind : ErrKind} {sub : BitVec 4} (hp : s.phase = .start)
    (hcheck : acqStart s = failAtOnce kind sub s) : exec .acquire s = .next (ended (recorded kind sub 0 0 s)) := by
  have hout : s.phase.inCycle = false := by rw [hp]; rfl
  rw [exec_acquire_at hp, acqPhaseStep, hcheck, failAtOnce_of_outside hout]
  rfl

/-- Settles O36: the first check that fails is the error of ACQUIRE's first step. -/
theorem acquireStartChecks : Obligations.AcquireStartChecks := by
  refine fun s hp => ⟨fun hinit => ?_, fun hinit hn => ?_⟩
  · exact exec_acquire_of_failing_check hp (acqStart_of_not_initDone hinit)
  · exact exec_acquire_of_failing_check hp
      (acqStart_of_illegalBatch hinit fun hlegal => by have := (legalBatch_iff _).1 hlegal; omega)

/-! ### The arming writes and the settle step (42_batch_sampler.md R172 to R174) -/

/-- The start of cycle and the first arming write. -/
theorem exec_acquire_start {s : State} {l : List Byte} {rest : List SensorAnswer} (hp : s.phase = .start)
    (hs : s.sensor = .ok l :: rest) (hinit : s.initDone = true) (hn : legalBatch s.nsamp = true) :
    exec .acquire s = .next
      { afterOk (.write s.dev s.params.A_USER_CTRL s.params.V_UC_OFF) [] rest s with
        nlat := s.nsamp, sampCnt := 0, acc := [], fifoCnt := 0, sstate := .fifoArmed, phase := .arm1 } := by
  have hwrite := xfer_busWrite_of_ok (s := startCycle s) hs s.params.A_USER_CTRL s.params.V_UC_OFF
    fun _ u => { u with phase := .arm1 }
  rw [exec_acquire_at hp, acqPhaseStep, acqStart_of_checked hinit hn]
  exact congrArg (fun u => Host.Outcome.next (tick u)) hwrite

theorem exec_acquire_arm1 {s : State} {l : List Byte} {rest : List SensorAnswer} (hp : s.phase = .arm1)
    (hs : s.sensor = .ok l :: rest) :
    exec .acquire s = .next
      { afterOk (.write s.dev s.params.A_USER_CTRL s.params.V_UC_FIFO_RESET) [] rest s with phase := .arm2 } := by
  rw [exec_acquire_at hp, acqPhaseStep, acqArm1, xfer_busWrite_of_ok hs]
  rfl

theorem exec_acquire_arm2 {s : State} {l : List Byte} {rest : List SensorAnswer} (hp : s.phase = .arm2)
    (hs : s.sensor = .ok l :: rest) :
    exec .acquire s = .next
      { afterOk (.write s.dev s.params.A_USER_CTRL s.params.V_UC_FIFO_ON) [] rest s with phase := .arm3 } := by
  rw [exec_acquire_at hp, acqPhaseStep, acqArm2, xfer_busWrite_of_ok hs]
  rfl

theorem exec_acquire_arm3 {s : State} {l : List Byte} {rest : List SensorAnswer} (hp : s.phase = .arm3)
    (hs : s.sensor = .ok l :: rest) :
    exec .acquire s = .next
      { afterOk (.write s.dev s.params.A_FIFO_EN s.params.V_FIFO_EN_ACCEL) [] rest s with phase := .settle } := by
  rw [exec_acquire_at hp, acqPhaseStep, acqArm3, xfer_busWrite_of_ok hs]
  rfl

theorem exec_acquire_settle {s : State} (hp : s.phase = .settle) :
    exec .acquire s = .next { s with sstate := .accumulating, phase := .poll, stepIx := s.stepIx + 1 } :=
  exec_acquire_at hp

/-- Settles O37: one step after another. -/
theorem acquireArms : Obligations.AcquireArms := fun _ _ _ =>
  ⟨fun hp hs hinit hlo hhi => exec_acquire_start hp hs hinit ((legalBatch_iff _).2 ⟨hlo, hhi⟩),
    exec_acquire_arm1, exec_acquire_arm2, exec_acquire_arm3, exec_acquire_settle⟩

/-! ### A poll with nothing cached (42_batch_sampler.md R175 to R177) -/

theorem acqIterate_of_empty {s : State} (h : s.fifoCnt = 0) : acqIterate s = acqStatus s := if_pos h

/-- A poll is one status read and what follows from its byte. -/
theorem exec_acquire_poll {s : State} {b : Byte} {rest : List SensorAnswer} (hp : s.phase = .poll)
    (hc : s.fifoCnt = 0) (hs : s.sensor = .ok [b] :: rest) :
    exec .acquire s = .next
      (tick (acqOnStatus b (delivered (.read s.dev s.params.A_INT_STATUS) [b] rest s))) := by
  rw [exec_acquire_at hp, acqPhaseStep, acqIterate_of_empty hc, acqStatus, xfer_busRead_of_ok hs]

theorem acqOnStatus_of_overflow {b : Byte} {s : State} (hp : s.phase = .poll) (h : overflowBit s.params b = true) :
    acqOnStatus b s =
      { recorded .fifoOverflow 0 0 0 { s with lastIntStatus := b } with sstate := .overflow, phase := .abort } := by
  have hc : s.phase.inCycle = true := by rw [hp]; rfl
  have hf : s.phase ≠ .finish := by rw [hp]; decide
  simp only [acqOnStatus, h, if_true]
  exact raise_of_inCycle (s := { s with lastIntStatus := b, sstate := .overflow }) hc hf

theorem acqOnStatus_of_dataReady {b : Byte} {s : State} (ho : overflowBit s.params b = false)
    (hd : dataReadyBit s.params b = true) : acqOnStatus b s = { s with lastIntStatus := b, phase := .cnth } := by
  simp [acqOnStatus, ho, hd]

theorem acqOnStatus_of_neither {b : Byte} {s : State} (ho : overflowBit s.params b = false)
    (hd : dataReadyBit s.params b = false) : acqOnStatus b s = { s with lastIntStatus := b, phase := .poll } := by
  simp [acqOnStatus, ho, hd]

/-- With data-ready and no overflow the count refresh follows. -/
theorem exec_acquire_poll_dataReady {s : State} {b : Byte} {rest : List SensorAnswer} (hp : s.phase = .poll)
    (hc : s.fifoCnt = 0) (hs : s.sensor = .ok [b] :: rest) (ho : overflowBit s.params b = false)
    (hd : dataReadyBit s.params b = true) :
    exec .acquire s = .next
      { afterOk (.read s.dev s.params.A_INT_STATUS) [b] rest s with lastIntStatus := b, phase := .cnth } := by
  rw [exec_acquire_poll hp hc hs, acqOnStatus_of_dataReady (s := delivered _ [b] rest s) ho hd]
  rfl

/-- With neither bit set the command polls again. -/
theorem exec_acquire_poll_neither {s : State} {b : Byte} {rest : List SensorAnswer} (hp : s.phase = .poll)
    (hc : s.fifoCnt = 0) (hs : s.sensor = .ok [b] :: rest) (ho : overflowBit s.params b = false)
    (hd : dataReadyBit s.params b = false) :
    exec .acquire s = .next
      { afterOk (.read s.dev s.params.A_INT_STATUS) [b] rest s with lastIntStatus := b, phase := .poll } := by
  rw [exec_acquire_poll hp hc hs, acqOnStatus_of_neither (s := delivered _ [b] rest s) ho hd]
  rfl

/-- Settles O38: the three cases of the status byte. -/
theorem acquirePolls : Obligations.AcquirePolls := by
  intro s b rest hp hc hs t
  refine ⟨fun ho => ?_, exec_acquire_poll_dataReady hp hc hs, fun ho hd => ?_⟩
  · rw [exec_acquire_poll hp hc hs, acqOnStatus_of_overflow (s := delivered _ [b] rest s) hp ho]
    rfl
  · rw [exec_acquire_poll_neither hp hc hs ho hd, ← hp]
    rfl

/-- Settles O44: by induction on the number of answers; a poll that sees neither bit leaves a polling ACQUIRE. -/
theorem acquirePollsWithoutEnd : Obligations.AcquirePollsWithoutEnd := by
  intro k s b rest hb hp hc ho hd hs
  induction k generalizing s with
  | zero => exact ⟨s, rfl, hb, hp, rfl, rfl, rfl, rfl, hs, rfl⟩
  | succ k ih =>
    have hfirst := exec_acquire_poll_neither hp hc hs ho hd
    obtain ⟨t, ht, hbusy, hphase, hsstate, hsamp, hacc, herr, hsensor, hstep⟩ :=
      ih { afterOk (.read s.dev s.params.A_INT_STATUS) [b] (List.replicate k (.ok [b]) ++ rest) s with
        lastIntStatus := b, phase := .poll } hb rfl hc ho hd rfl
    have hcount : t.stepIx = s.stepIx + (k + 1) := hstep.trans (Nat.add_right_comm s.stepIx 1 k)
    refine ⟨t, ?_, hbusy, hphase, hsstate, hsamp, hacc, herr, hsensor, hcount⟩
    rw [execN, hfirst]
    exact ht

/-! ### The count refresh (42_batch_sampler.md R177) -/

theorem exec_acquire_cnth {s : State} {b : Byte} {rest : List SensorAnswer} (hp : s.phase = .cnth)
    (hs : s.sensor = .ok [b] :: rest) :
    exec .acquire s = .next
      { afterOk (.read s.dev s.params.A_FIFO_COUNTH) [b] rest s with cntHigh := b, phase := .cntl } := by
  rw [exec_acquire_at hp, acqPhaseStep, acqCountHigh, xfer_busRead_of_ok hs]
  rfl

/-- Where the loop goes on, read off FIFOCNT as a number. -/
theorem loopPhase_of_toNat {s : State} {n : Nat} (h : s.fifoCnt.toNat = n) :
    loopPhase s = if n = 0 then .poll else .drain := by
  subst h
  exact if_congr BitVec.toNat_eq rfl rfl

theorem exec_acquire_cntl {s : State} {b : Byte} {rest : List SensorAnswer} (hp : s.phase = .cntl)
    (hs : s.sensor = .ok [b] :: rest) :
    exec .acquire s = .next
      { afterOk (.read s.dev s.params.A_FIFO_COUNTL) [b] rest s with
        fifoCnt := BitVec.ofNat 16 (s.cntHigh.toNat * 256 + b.toNat)
        cntMisaligned := s.cntMisaligned || decide ((s.cntHigh.toNat * 256 + b.toNat) % 6 ≠ 0)
        phase := if s.cntHigh.toNat * 256 + b.toNat = 0 then .poll else .drain } := by
  have hloop (u : State) : loopPhase (setCount s.cntHigh b u) =
      if s.cntHigh.toNat * 256 + b.toNat = 0 then .poll else .drain :=
    loopPhase_of_toNat (combineCount_toNat s.cntHigh b)
  rw [exec_acquire_at hp, acqPhaseStep, acqCountLow, xfer_busRead_of_ok hs]
  dsimp only
  rw [show (delivered (.read s.dev s.params.A_FIFO_COUNTL) [b] rest s).cntHigh = s.cntHigh from rfl, hloop, setCount_eq]
  rfl

/-- Settles O39: the two reads in order. -/
theorem acquireRefreshesTheCount : Obligations.AcquireRefreshesTheCount := fun _ _ _ hs =>
  ⟨fun hp => exec_acquire_cnth hp hs, fun hp => exec_acquire_cntl hp hs⟩

/-! ### The completion (42_batch_sampler.md R180) -/

theorem busWrite_of_err {s : State} {c : Half} {rest : List SensorAnswer} (h : s.sensor = .err c :: rest)
    (reg v : Byte) : busWrite reg v s = (.error c, afterTransaction (.write s.dev reg v) (.err c) rest s) := by
  simp only [busWrite, draw_of_cons h]
  rfl

theorem exec_acquire_finish {s : State} {l : List Byte} {rest : List SensorAnswer} (hp : s.phase = .finish)
    (hs : s.sensor = .ok l :: rest) :
    exec .acquire s = .next
      { afterOk (.write s.dev s.params.A_FIFO_EN s.params.V_FIFO_EN_OFF) [] rest s with
        acc := [], sstate := .complete, phase := .doneComplete } := by
  rw [exec_acquire_at hp, acqPhaseStep, acqFinish, xfer_busWrite_of_ok hs]
  rfl

/-- A failed completion write ends the cycle in its own step (60_exceptions.md R215). -/
theorem exec_acquire_finish_of_err {s : State} {c : Half} {rest : List SensorAnswer} (hp : s.phase = .finish)
    (hs : s.sensor = .err c :: rest) :
    exec .acquire s = .next
      { recorded .bus 0 (BitVec.ofNat 8 (min s.xcount 255)) c
          (afterErr (.write s.dev s.params.A_FIFO_EN s.params.V_FIFO_EN_OFF) c rest s) with
        sstate := .idle, phase := .idleEnd } := by
  rw [exec_acquire_at hp, acqPhaseStep, acqFinish, xfer_of_error (busWrite_of_err hs _ _), busError,
    raise_of_finish (s := afterTransaction _ _ rest s) hp]
  rfl

theorem exec_acquire_doneComplete {s : State} (hp : s.phase = .doneComplete) : exec .acquire s = .next (ended s) :=
  exec_acquire_at hp

theorem exec_acquire_idleEnd {s : State} (hp : s.phase = .idleEnd) : exec .acquire s = .next (ended s) :=
  exec_acquire_at hp

/-- Settles O41: the completion write with its two answers, and the step after each. -/
theorem acquireFinishes : Obligations.AcquireFinishes := fun _ _ =>
  ⟨fun _ => exec_acquire_finish, fun _ => exec_acquire_finish_of_err, exec_acquire_doneComplete, exec_acquire_idleEnd⟩

end Sys2Proof.Machine
end

section
/-! PROOF. A drain and the byte stream (42_batch_sampler.md R178, R179, R182): the deframer moves whole frames from the
accumulator to the samples, so the stream the two stand for grows by the bytes read and by nothing else. -/

namespace Sys2Proof.Machine

open Sys2Proof.Config

/-! ### The samples in memory (10_state.md R46) -/

/-- A sample depends on its own six bytes only. -/
theorem sample_congr {s t : State} {k : Nat}
    (h : ∀ j, j < 6 → t.mem.read (sampleAddr k + j) = s.mem.read (sampleAddr k + j)) : t.sample k = s.sample k := by
  simp only [State.sample, h 1 (by decide), h 2 (by decide), h 3 (by decide), h 4 (by decide), h 5 (by decide),
    show t.mem.read (sampleAddr k) = s.mem.read (sampleAddr k) from h 0 (by decide)]

theorem halfBytes_append (x : Half) : x.extractLsb' 8 8 ++ x.extractLsb' 0 8 = x := by
  rw [BitVec.extractLsb'_append_extractLsb'_eq_extractLsb' (by rfl)]
  exact BitVec.extractLsb'_eq_self

theorem pair_fields (hi lo : Byte) :
    (hi ++ lo : Half).extractLsb' 8 8 = hi ∧ (hi ++ lo : Half).extractLsb' 0 8 = lo := by
  simp only [BitVec.extractLsb'_append_eq_ite]
  simp

/-- A stored sample reads back. -/
theorem storeSample_sample_same {s : State} (hw : s.mem.wf = true) (v : Sample) :
    (storeSample v s).sample s.sampCnt.toNat = v := by
  have hbyte (j : Nat) (hj : j < 6) :
      (storeSample v s).mem.read (sampleAddr s.sampCnt.toNat + j) = (sampleBytes v)[j]'hj := by
    have hin : sampleAddr s.sampCnt.toNat ≤ sampleAddr s.sampCnt.toNat + j ∧
        sampleAddr s.sampCnt.toNat + j < sampleAddr s.sampCnt.toNat + (sampleBytes v).length :=
      ⟨Nat.le_add_right _ _, Nat.add_lt_add_left hj _⟩
    rw [storeSample_mem, Memory.read_writeBytes hw, dif_pos hin]
    simp only [Nat.add_sub_cancel_left]
    rfl
  simp only [State.sample, hbyte 1 (by decide), hbyte 2 (by decide), hbyte 3 (by decide), hbyte 4 (by decide),
    hbyte 5 (by decide), show (storeSample v s).mem.read (sampleAddr s.sampCnt.toNat) = _ from hbyte 0 (by decide)]
  simp [sampleBytes, halfBytes_append]

/-- The samples before it are not touched. -/
theorem storeSample_sample_before {s : State} (hw : s.mem.wf = true) (v : Sample) {k : Nat} (hk : k < s.sampCnt.toNat) :
    (storeSample v s).sample k = s.sample k :=
  sample_congr fun j hj => Memory.read_writeBytes_of_outside hw (.inl (by simp only [sampleAddr]; omega))

/-- The frame decoder loses nothing (41_sensor_driver.md R146). -/
theorem frameBytes_decode6 (b0 b1 b2 b3 b4 b5 : Byte) :
    frameBytes (decode6 b0 b1 b2 b3 b4 b5) = [b0, b1, b2, b3, b4, b5] := by
  simp only [frameBytes, decode6, (pair_fields _ _).1, (pair_fields _ _).2]

/-! ### The stream (42_batch_sampler.md R182) -/

/-- The frames of the first `n` samples, in stream order. -/
def State.frames (s : State) (n : Nat) : List Byte :=
  ((List.range n).map fun k => frameBytes (s.sample k)).flatten

theorem stream_eq (s : State) : s.stream = s.frames s.sampCnt.toNat ++ s.acc := rfl

theorem frames_succ (s : State) (n : Nat) : s.frames (n + 1) = s.frames n ++ frameBytes (s.sample n) := by
  simp [State.frames, List.range_succ]

theorem frames_congr {s t : State} {n : Nat} (h : ∀ k, k < n → t.sample k = s.sample k) : t.frames n = s.frames n :=
  congrArg List.flatten (List.map_congr_left fun k hk => congrArg frameBytes (h k (List.mem_range.1 hk)))

theorem frames_length (s : State) (n : Nat) : (s.frames n).length = 6 * n := by
  induction n with
  | zero => rfl
  | succ n ih =>
    rw [frames_succ, List.length_append, ih]
    rfl

/-- Frame `k` stands at its place, whatever follows the frames. -/
theorem frames_frame (s : State) {n k : Nat} (hk : k < n) (l : List Byte) :
    ((s.frames n ++ l).drop (6 * k)).take 6 = frameBytes (s.sample k) := by
  induction n generalizing l with
  | zero => cases hk
  | succ n ih =>
    rw [frames_succ, List.append_assoc]
    rcases Nat.lt_succ_iff_lt_or_eq.1 hk with hlt | rfl
    · exact ih hlt _
    · rw [List.drop_left' (frames_length s k)]
      rfl

/-- The stream's length: six bytes for each sample, then the accumulator. -/
theorem stream_length (s : State) : s.stream.length = 6 * s.sampCnt.toNat + s.acc.length := by
  rw [stream_eq, List.length_append, frames_length]

/-- A stored sample appends its frame to the frames of the batch. -/
theorem storeSample_frames {s : State} (hw : s.mem.wf = true) (h : s.sampCnt.toNat < s.nlat.toNat) (v : Sample) :
    (storeSample v s).frames (storeSample v s).sampCnt.toNat = s.frames s.sampCnt.toNat ++ frameBytes v := by
  rw [storeSample_sampCnt_toNat h, frames_succ, storeSample_sample_same hw,
    frames_congr fun k => storeSample_sample_before hw v]

/-- The deframer keeps the stream: what leaves the accumulator is in the samples. -/
theorem deframe_stream {l : List Byte} {s : State} (hw : s.mem.wf = true) :
    (deframe l s).stream = s.frames s.sampCnt.toNat ++ l := by
  revert hw
  refine deframe_induction (P := fun l s => s.mem.wf = true →
    (deframe l s).stream = s.frames s.sampCnt.toNat ++ l) ?_ ?_ l s
  · rintro l s (h | h) -
    · rw [deframe_short h]
      rfl
    · rw [deframe_full h]
      rfl
  · intro b0 b1 b2 b3 b4 b5 rest s h ih hw
    rw [deframe_frame h, ih (Memory.writeBytes_wf hw _ _), storeSample_frames hw h, frameBytes_decode6,
      List.append_assoc]
    rfl

/-- The deframer decodes every whole frame while the batch is not full. -/
theorem deframe_sampCnt_toNat {l : List Byte} {s : State} (h : s.sampCnt.toNat ≤ s.nlat.toNat) :
    (deframe l s).sampCnt.toNat = min s.nlat.toNat (s.sampCnt.toNat + l.length / 6) := by
  revert h
  refine deframe_induction (P := fun l s => s.sampCnt.toNat ≤ s.nlat.toNat →
    (deframe l s).sampCnt.toNat = min s.nlat.toNat (s.sampCnt.toNat + l.length / 6)) ?_ ?_ l s
  · rintro l s (h | h) hle
    · rw [deframe_short h]
      simp only [P_FRAME] at h
      dsimp only
      omega
    · rw [deframe_full h]
      dsimp only
      omega
  · intro b0 b1 b2 b3 b4 b5 rest s h ih hle
    have hcnt := storeSample_sampCnt_toNat h (decode6 b0 b1 b2 b3 b4 b5)
    have hrest := ih (by rw [hcnt]; exact h)
    rw [deframe_frame h, hrest, hcnt, storeSample_nlat]
    simp only [List.length_cons]
    omega

/-! ### The step of a drain (42_batch_sampler.md R178) -/

/-- The state in which the statements on the bytes of a drain run: FIFOCNT has fallen by their number. -/
def drained (l : List Byte) (rest : List SensorAnswer) (s : State) : State :=
  { delivered (.readBlock s.dev s.params.A_FIFO_R_W (min s.fifoCnt.toNat 30)) l rest s with
    fifoCnt := BitVec.ofNat 16 (s.fifoCnt.toNat - l.length) }

theorem exec_acquire_drain {s : State} {l : List Byte} {rest : List SensorAnswer} (hp : s.phase = .drain)
    (hc : s.fifoCnt ≠ 0) (hfit : FitsBlock s.params (min s.fifoCnt.toNat 30) l) (hs : s.sensor = .ok l :: rest) :
    exec .acquire s = .next (tick (acqOnBytes l (drained l rest s))) := by
  have hlen : l.length ≤ s.fifoCnt.toNat := (length_le_of_fitsBlock hfit).trans (Nat.min_le_left _ _)
  rw [exec_acquire_at hp, acqPhaseStep, acqIterate, if_neg hc, acqDrain, drainXfer,
    xfer_of_ok (busReadBlock_of_ok (n := drainLength s) hfit hs _), drained, ← fifoCnt_sub_length hlen]
  rfl

/-- Settles O40: the step is the deframer on the accumulator with the new bytes behind it. -/
theorem acquireDrainExtendsTheStream : Obligations.AcquireDrainExtendsTheStream := by
  intro s l rest hinv hp hc hfit hs
  have hw : (drained l rest s).mem.wf = true := hinv.memCanonical
  have hlen : l.length ≤ s.fifoCnt.toNat := (length_le_of_fitsBlock hfit).trans (Nat.min_le_left _ _)
  have hcached : (drained l rest s).fifoCnt.toNat = s.fifoCnt.toNat - l.length := by
    have := s.fifoCnt.isLt
    simp only [drained, BitVec.toNat_ofNat]
    omega
  refine ⟨_, exec_acquire_drain hp hc hfit hs, ?_⟩
  rw [acqOnBytes_eq]
  refine ⟨rfl, ?_, ?_, fun a ha => ?_, ?_⟩
  · exact (deframe_stream hw).trans (List.append_assoc _ _ _).symm
  · refine (deframe_sampCnt_toNat (s := drained l rest s) hinv.sampCntLe).trans ?_
    rw [Nat.add_assoc, ← List.length_append, Nat.mul_add_div (by decide)]
    rfl
  · refine deframe_mem_outside hw fun k (hlo : s.sampCnt.toNat ≤ k) hhi => ?_
    simp only [tick_sampCnt] at ha
    simp only [sampleAddr, samplesBase]
    omega
  · refine if_congr Iff.rfl rfl ((loopPhase_of_toNat hcached).trans (if_congr ?_ rfl rfl))
    omega

end Sys2Proof.Machine
end

section
/-! PROOF. A whole acquisition against a sensor that delivers the batch in full bursts (42_batch_sampler.md R170, R186):
the arming, the drains by induction on the bytes to come, and the completion. -/

namespace Sys2Proof.Machine

open Sys2Proof.Config

/-! ### Runs of ACQUIRE -/

/-- `k` steps of ACQUIRE lead from `s` to a state that meets `P`. -/
def AcquireReaches (k : Nat) (s : State) (P : State → Prop) : Prop := ∃ t, execN k .acquire s = .next t ∧ P t

theorem AcquireReaches.refl {s : State} {P : State → Prop} (h : P s) : AcquireReaches 0 s P := ⟨s, rfl, h⟩

theorem acquireReaches_succ_iff {k : Nat} {s t : State} {P : State → Prop} (h : exec .acquire s = .next t) :
    AcquireReaches (k + 1) s P ↔ AcquireReaches k t P := by
  simp only [AcquireReaches, execN, h]

theorem AcquireReaches.trans {j k : Nat} {s : State} {P Q : State → Prop} (h : AcquireReaches j s P)
    (hk : ∀ t, P t → AcquireReaches k t Q) : AcquireReaches (k + j) s Q := by
  induction j generalizing s with
  | zero =>
    obtain ⟨t, ht, hP⟩ := h
    cases ht
    exact hk s hP
  | succ j ih =>
    obtain ⟨t, ht⟩ := exec_next .acquire s
    exact (acquireReaches_succ_iff ht).2 (ih ((acquireReaches_succ_iff ht).1 h))

theorem inv_exec_acquire {s t : State} (h : s.Inv) (hn : s.phase ≠ .none) (e : exec .acquire s = .next t) : t.Inv :=
  inv_exec h (h.phaseRuns hn).1 (h.phaseRuns hn).2 e

/-- A step from a state that meets the invariant, which the next state then meets. -/
theorem AcquireReaches.step {k : Nat} {s t : State} {P : State → Prop} (h : s.Inv) (hn : s.phase ≠ .none)
    (e : exec .acquire s = .next t) (ht : t.Inv → AcquireReaches k t P) : AcquireReaches (k + 1) s P :=
  (acquireReaches_succ_iff e).2 (ht (inv_exec_acquire h hn e))

/-! ### The drains -/

/-- A batch of `n` samples that is being delivered: `all` are its bytes, `todo` those still in the sensor's FIFO, and the
sensor answers with them in full bursts, then with `tail`. -/
structure Delivering (fuel : Nat) (n : Half) (all todo : List Byte) (tail : List SensorAnswer) (s : State) : Prop where
  inv : s.Inv
  phase : s.phase = if todo = [] then .finish else .drain
  cached : s.fifoCnt.toNat = todo.length
  latched : s.nlat = n
  whole : all.length = 6 * n.toNat
  stream : s.stream ++ todo = all
  sensor : s.sensor = burstsOf fuel todo ++ tail
  enough : todo.length ≤ fuel

theorem burstsOf_nil (fuel : Nat) : burstsOf fuel [] = [] := by
  cases fuel <;> rfl

theorem burstsOf_succ {l : List Byte} (h : l ≠ []) (fuel : Nat) :
    burstsOf (fuel + 1) l = .ok (l.take 30) :: burstsOf fuel (l.drop 30) := by
  cases l with
  | nil => exact absurd rfl h
  | cons b l => rfl

/-- A full answer is one the parameters allow. -/
theorem fitsBlock_of_length {p : Params} {n : Nat} {l : List Byte} (h : l.length = n) (hn : 1 ≤ n) :
    FitsBlock p n l := by
  unfold FitsBlock
  split
  · exact ⟨h ▸ hn, h.le⟩
  · exact h

/-- One drain takes a burst off the bytes to come; the batch is full exactly when none is left. -/
theorem Delivering.drain {fuel : Nat} {n : Half} {all todo : List Byte} {tail : List SensorAnswer} {s : State}
    (h : Delivering (fuel + 1) n all todo tail s) (hne : todo ≠ []) :
    ∃ t, exec .acquire s = .next t ∧ Delivering fuel n all (todo.drop 30) tail t := by
  have hpos : 0 < todo.length := List.length_pos_of_ne_nil hne
  have hp : s.phase = .drain := h.phase.trans (if_neg hne)
  have hc : s.fifoCnt ≠ 0 := fun e => by
    have hzero := h.cached
    rw [e] at hzero
    exact hpos.ne hzero
  have hfit : FitsBlock s.params (min s.fifoCnt.toNat 30) (todo.take 30) := by
    rw [h.cached]
    exact fitsBlock_of_length (by rw [List.length_take, Nat.min_comm]) (by omega)
  have hs : s.sensor = .ok (todo.take 30) :: (burstsOf fuel (todo.drop 30) ++ tail) := by
    rw [h.sensor, burstsOf_succ hne]
    rfl
  obtain ⟨t, ht, hframe, hstream, hcnt, -, hphase⟩ :=
    acquireDrainExtendsTheStream s _ _ h.inv hp hc hfit hs
  have hnlat : t.nlat = n := (congrArg State.nlat hframe).trans h.latched
  have hfull : t.sampCnt = s.nlat ↔ todo.drop 30 = [] := by
    have hall := congrArg List.length h.stream
    rw [List.length_append, stream_length, h.whole] at hall
    rw [h.latched, List.length_take] at hcnt
    rw [h.latched, ← BitVec.toNat_inj, hcnt, List.drop_eq_nil_iff]
    omega
  refine ⟨t, ht, inv_exec_acquire h.inv (by rw [hp]; decide) ht, ?_, ?_, hnlat, h.whole, ?_, ?_, ?_⟩
  · rw [hphase, h.cached, List.length_take]
    by_cases hlast : todo.drop 30 = []
    · rw [if_pos (hfull.2 hlast), if_pos hlast]
    · have hmore : ¬ todo.length = min 30 todo.length := fun e => hlast (List.drop_eq_nil_iff.2 (by omega))
      rw [if_neg (mt hfull.1 hlast), if_neg hlast, if_neg hmore]
  · have hcached := congrArg (fun u => u.fifoCnt.toNat) hframe
    have hlt := s.fifoCnt.isLt
    rw [h.cached] at hcached hlt
    simp only [BitVec.toNat_ofNat, List.length_take] at hcached
    rw [hcached, List.length_drop]
    omega
  · rw [hstream, List.append_assoc, List.take_append_drop, h.stream]
  · exact congrArg State.sensor hframe
  · have := h.enough
    rw [List.length_drop]
    omega

/-- The drains, by induction on the sensor's answers: one for every 30 bytes begun. -/
theorem Delivering.reaches_finish {fuel : Nat} {n : Half} {all todo : List Byte} {tail : List SensorAnswer} {s : State}
    (h : Delivering fuel n all todo tail s) :
    AcquireReaches ((todo.length + 29) / 30) s fun t => ∃ fuel, Delivering fuel n all [] tail t := by
  induction fuel generalizing todo s with
  | zero =>
    obtain rfl : todo = [] := List.length_eq_zero_iff.1 (Nat.le_zero.1 h.enough)
    exact .refl ⟨0, h⟩
  | succ fuel ih =>
    by_cases hne : todo = []
    · subst hne
      exact .refl ⟨_, h⟩
    · obtain ⟨t, ht, hnext⟩ := h.drain hne
      have hpos : 0 < todo.length := List.length_pos_of_ne_nil hne
      have hsteps : (todo.length + 29) / 30 = ((todo.drop 30).length + 29) / 30 + 1 := by
        rw [List.length_drop]
        omega
      rw [hsteps]
      exact (acquireReaches_succ_iff ht).2 (ih hnext)

/-! ### The steps before the drains and after them -/

/-- The eight steps from START to the count refresh. -/
theorem reaches_delivering {s : State} {data : List Byte} {status high low : Byte} {tail : List SensorAnswer}
    (hinv : s.Inv) (hp : s.phase = .start) (hinit : s.initDone = true) (hn : legalBatch s.nsamp = true)
    (hdata : data.length = 6 * s.nsamp.toNat) (ho : overflowBit s.params status = false)
    (hd : dataReadyBit s.params status = true) (hcount : high.toNat * 256 + low.toNat = data.length)
    (hs : s.sensor = .ok [] :: .ok [] :: .ok [] :: .ok [] :: .ok [status] :: .ok [high] :: .ok [low] ::
      (burstsOf data.length data ++ tail)) :
    AcquireReaches 8 s (Delivering data.length s.nsamp data data tail) := by
  have hpos := (legalBatch_iff _).1 hn
  refine .step hinv (by rw [hp]; decide) (exec_acquire_start hp hs hinit hn) fun harm1 => ?_
  refine .step harm1 nofun (exec_acquire_arm1 rfl rfl) fun harm2 => ?_
  refine .step harm2 nofun (exec_acquire_arm2 rfl rfl) fun harm3 => ?_
  refine .step harm3 nofun (exec_acquire_arm3 rfl rfl) fun hsettle => ?_
  refine .step hsettle nofun (exec_acquire_settle rfl) fun hpoll => ?_
  refine .step hpoll nofun (exec_acquire_poll_dataReady rfl rfl rfl ho hd) fun hcnth => ?_
  refine .step hcnth nofun (exec_acquire_cnth rfl rfl) fun hcntl => ?_
  refine .step hcntl nofun (exec_acquire_cntl rfl rfl) fun hdrain => .refl ?_
  refine ⟨hdrain, ?_, ?_, rfl, hdata, rfl, rfl, le_rfl⟩
  · have hne : data ≠ [] := List.ne_nil_of_length_pos (by omega)
    have hcounted : ¬ high.toNat * 256 + low.toNat = 0 := by omega
    exact (if_neg hcounted).trans (if_neg hne).symm
  · refine (BitVec.toNat_ofNat _ _).trans ((Nat.mod_eq_of_lt ?_).trans hcount)
    have hhigh := high.isLt
    have hlow := low.isLt
    omega

/-- The completion write and the completion. -/
theorem Delivering.reaches_end {fuel : Nat} {n : Half} {all : List Byte} {rest : List SensorAnswer} {s : State}
    (h : Delivering fuel n all [] (.ok [] :: rest) s) :
    AcquireReaches 2 s fun t => t.busy = false ∧ t.done = true ∧ t.errInfo = .zero ∧ t.sstate = .complete ∧
      t.nlat = n ∧ t.sampCnt = n ∧ t.fifoCnt = 0 ∧ t.acc = [] ∧ t.sensor = rest ∧
      ∀ k : Nat, k < n.toNat → frameBytes (t.sample k) = (all.drop (6 * k)).take 6 := by
  have hp : s.phase = .finish := h.phase.trans (if_pos rfl)
  have hs : s.sensor = .ok [] :: rest := by rw [h.sensor, burstsOf_nil, List.nil_append]
  have hrunning : s.failed = false := by refine h.inv.not_failed ?_ ?_ ?_ <;> rw [hp] <;> decide
  have hcnt : s.sampCnt = n := (h.inv.finishFull hp).trans h.latched
  have hall : all = s.frames n.toNat ++ s.acc := by rw [← h.stream, List.append_nil, stream_eq, hcnt]
  refine (acquireReaches_succ_iff (exec_acquire_finish hp hs)).2
    ((acquireReaches_succ_iff (exec_acquire_doneComplete rfl)).2 (.refl ?_))
  refine ⟨rfl, rfl, h.inv.noErrorIsZero hrunning, rfl, h.latched, hcnt, BitVec.eq_of_toNat_eq h.cached, rfl, rfl,
    fun k hk => ?_⟩
  rw [hall]
  exact (frames_frame s hk s.acc).symm

/-- Settles O45: the eight steps to the first drain, a drain for every 30 bytes begun, and the two steps of the
completion. -/
theorem acquireDeliversTheBatch : Obligations.AcquireDeliversTheBatch := by
  intro s data status high low rest _ hinv hp hinit hlo hhi hdata ho hd hcount hs
  have hbatch := (reaches_delivering hinv hp hinit ((legalBatch_iff _).2 ⟨hlo, hhi⟩) hdata ho hd
    (hcount.trans hdata.symm) hs).trans fun _ h => h.reaches_finish.trans fun _ ⟨_, h⟩ => h.reaches_end
  rw [show 10 + (data.length + 29) / 30 = 2 + (data.length + 29) / 30 + 8 by omega]
  exact hbatch

end Sys2Proof.Machine
end

section
/-! PROOF. What leaves a command and a batch alone: a host write while BUSY moves sticky bits only (42_batch_sampler.md
R183, R184), and while SSTATE stays COMPLETE no event touches the batch (R186). -/

namespace Sys2Proof.Machine

open Sys2Proof.Config

/-- Settles O17: with BUSY = 1 a host write clears sticky bits, sets CMD_REJECTED or does nothing. -/
theorem hostWritesDoNotDisturbACommand : Obligations.HostWritesDoNotDisturbACommand := by
  intro s off v hb
  rcases hostWrite_cases off v s with ⟨-, e⟩ | ⟨-, -, e⟩ | ⟨hidle, -⟩ | e
  · rw [e]
    rfl
  · rw [e]
  · exact Bool.noConfusion (hb.symm.trans hidle)
  · rw [e]

/-! ### The events that keep the batch -/

/-- The size of the batch, SAMPCNT and every byte of the sample memory are the same. -/
structure KeepsBatch (s t : State) : Prop where
  nlat : t.nlat = s.nlat
  sampCnt : t.sampCnt = s.sampCnt
  samples : ∀ a : Nat, samplesBase ≤ a → t.mem.read a = s.mem.read a

theorem keepsBatch_of_mem {s t : State} (hn : t.nlat = s.nlat) (hc : t.sampCnt = s.sampCnt) (hm : t.mem = s.mem) :
    KeepsBatch s t :=
  ⟨hn, hc, fun _ _ => by rw [hm]⟩

theorem KeepsBatch.sample_eq {s t : State} (h : KeepsBatch s t) (k : Nat) : t.sample k = s.sample k :=
  sample_congr fun j _ => h.samples _ (by simp only [sampleAddr]; omega)

/-- Bytes written below the samples are outside them. -/
theorem read_samples_of_writeBytes {m : Memory} (hw : m.wf = true) {a o : Nat} {l : List Byte}
    (ho : o + l.length ≤ samplesBase) (ha : samplesBase ≤ a) : (m.writeBytes o l).read a = m.read a :=
  Memory.read_writeBytes_of_outside hw (.inr (ho.trans ha))

theorem keepsBatch_failAtOnce {s : State} (h : s.phase.inCycle = false) (kind : ErrKind) (sub : BitVec 4) :
    KeepsBatch s (failAtOnce kind sub s) := by
  rw [failAtOnce_of_outside h]
  exact keepsBatch_of_mem rfl rfl rfl

/-! ### Commands other than ACQUIRE -/

/-- A block read into DATABUF stays below the samples (10_state.md R45). -/
theorem xfer_busReadBlock_samples {s : State} (hw : s.mem.wf = true) {reg : Byte} {n : Nat} (hn : n ≤ P_BLOCK_MAX)
    {k : List Byte → State → State} (hk : ∀ l u, (k l u).mem = u.mem.writeBytes databufBase l) {a : Nat}
    (ha : samplesBase ≤ a) : (xfer (busReadBlock reg n) k s).mem.read a = s.mem.read a := by
  obtain ⟨rest, ⟨l, e, hl, -⟩ | ⟨c, e⟩⟩ := xfer_busReadBlock_cases reg n k s <;> rw [e]
  · rw [hk]
    exact read_samples_of_writeBytes hw (by simp only [databufBase, samplesBase, P_BLOCK_MAX] at hn ⊢; omega) ha
  · rw [busError_mem]
    rfl

theorem execRdblk_samples {s t : State} (hw : s.mem.wf = true) {reg len : Byte} (h : execRdblk reg len s = .next t)
    {a : Nat} (ha : samplesBase ≤ a) : t.mem.read a = s.mem.read a := by
  rcases ordinaryStep_cases h with ⟨-, rfl⟩ | ⟨-, rfl⟩
  · rfl
  · split
    · split
      · next hlen =>
        exact xfer_busReadBlock_samples hw (le_blockMax_of_blockLengthOk hlen) (fun _ _ => rfl) ha
      · rw [tick_mem, failAtOnce_mem]
    · rfl

theorem execDrain_samples {s t : State} (hw : s.mem.wf = true) (h : execDrain s = .next t) {a : Nat}
    (ha : samplesBase ≤ a) : t.mem.read a = s.mem.read a := by
  rcases ordinaryStep_cases h with ⟨-, rfl⟩ | ⟨-, rfl⟩
  · rfl
  · split
    · split
      · rfl
      · exact xfer_busReadBlock_samples hw (drainLength_le s) (fun _ _ => rfl) ha
    · rfl

/-- The commands that are outside the memory's writers (10_state.md R52). -/
theorem commandFrame_mem {i : Instr} (hb : ∀ reg len, i ≠ .rdblk reg len) (hd : i ≠ .drain) (ha : i ≠ .acquire)
    (s t : State) : (commandFrame i s t).mem = s.mem := by
  cases i with
  | rdblk reg len => exact absurd rfl (hb reg len)
  | drain => exact absurd rfl hd
  | acquire => exact absurd rfl ha
  | _ => rfl

theorem keepsBatch_exec {i : Instr} {s t : State} (hw : s.mem.wf = true) (hp : s.phase = .none) (ha : i ≠ .acquire)
    (h : exec i s = .next t) : KeepsBatch s t := by
  have hframe : t = commandFrame i s t := exec_eq_commandFrame (fun _ => hp) h
  obtain ⟨-, hn, hc, -⟩ := commandFrame_sampler ha s t
  refine ⟨(congrArg State.nlat hframe).trans hn, (congrArg State.sampCnt hframe).trans hc, fun a hlo => ?_⟩
  by_cases hd : i = .drain
  · subst hd
    exact execDrain_samples hw h hlo
  by_cases hb : ∃ reg len, i = .rdblk reg len
  · obtain ⟨reg, len, rfl⟩ := hb
    exact execRdblk_samples hw h hlo
  · have hmem := (congrArg State.mem hframe).trans
      (commandFrame_mem (fun reg len e => hb ⟨reg, len, e⟩) hd ha s t)
    rw [hmem]

/-! ### ACQUIRE -/

/-- A running ACQUIRE has a complete batch before its start of cycle and after its completion write only
(42_batch_sampler.md R181). -/
theorem Phase.of_admits_complete {p : Phase} (h : p.admits .complete = true) (hn : p ≠ .none) :
    p = .start ∨ p = .doneComplete := by
  revert h hn
  cases p <;> decide

/-- With its checks passed, ACQUIRE's first step gives the batch up. -/
theorem acqArm0_startCycle_sstate (s : State) : (acqArm0 (startCycle s)).sstate = .fifoArmed := by
  unfold acqArm0
  obtain ⟨rest, e | ⟨c, e⟩⟩ := xfer_busWrite_cases (startCycle s).params.A_USER_CTRL (startCycle s).params.V_UC_OFF
    (fun _ u => { u with phase := .arm1 }) (startCycle s) <;> rw [e]
  · rfl
  · rw [busError, raise_of_inCycle (s := afterTransaction _ (.err c) rest (startCycle s)) rfl nofun]
    rfl

theorem keepsBatch_acquire {s t : State} (hp : s.phase = .start ∨ s.phase = .doneComplete)
    (h : exec .acquire s = .next t) (ht : t.sstate = .complete) : KeepsBatch s t := by
  rcases hp with hp | hp
  · have hout : s.phase.inCycle = false := by rw [hp]; rfl
    obtain rfl : tick (acqStart s) = t := by
      rw [exec_acquire_at hp] at h
      cases h
      rfl
    have hkeep (kind : ErrKind) (sub : BitVec 4) (e : acqStart s = failAtOnce kind sub s) :
        KeepsBatch s (tick (acqStart s)) := by
      rw [e]
      exact { keepsBatch_failAtOnce hout kind sub with }
    cases hinit : s.initDone with
    | false => exact hkeep _ _ (acqStart_of_not_initDone hinit)
    | true =>
      by_cases hn : legalBatch s.nsamp = true
      · rw [tick_sstate, acqStart_of_checked hinit hn, acqArm0_startCycle_sstate] at ht
        cases ht
      · exact hkeep _ _ (acqStart_of_illegalBatch hinit hn)
  · rw [exec_acquire_doneComplete hp] at h
    cases h
    exact keepsBatch_of_mem rfl rfl rfl

/-! ### The events (20_memory.md R73) -/

theorem keepsBatch_sequencerTurn {s t : State} (h : sequencerTurn s = .next t) (hinv : s.Inv)
    (hx : s.sstate = .complete) (ht : t.sstate = .complete) : KeepsBatch s t := by
  unfold sequencerTurn at h
  split at h
  · next hb =>
    split at h
    · next i hd =>
      by_cases ha : i = .acquire
      · subst ha
        exact keepsBatch_acquire (Phase.of_admits_complete (hx ▸ hinv.phaseAdmits) (hinv.acquireHasPhase hb hd)) h ht
      · have hp : s.phase = .none := hinv.phase_eq_none (by rw [hd]; exact fun e => ha (Except.ok.inj e))
        exact keepsBatch_exec hinv.memCanonical hp ha h
    · next e hd =>
      have hp : s.phase = .none := hinv.phase_eq_none (by rw [hd]; nofun)
      cases h
      exact { keepsBatch_failAtOnce (by rw [hp]; rfl) .illegalCommand (illegalSubCause e) with }
  · cases h
    exact keepsBatch_of_mem rfl rfl rfl

/-- A host write reaches DATABUF at most (20_memory.md R66). -/
theorem keepsBatch_hostWrite {s : State} (hw : s.mem.wf = true) (off : Offset) (v : Word) :
    KeepsBatch s (hostWrite off v s) := by
  rcases hostWrite_cases off v s with
    ⟨-, e⟩ | ⟨-, -, e⟩ | ⟨-, ⟨-, e⟩ | ⟨-, e⟩ | ⟨-, e⟩ | ⟨-, e⟩ | ⟨-, hhi, e⟩⟩ | e <;> rw [e]
  pick_goal 7
  · refine ⟨rfl, rfl, fun a ha => read_samples_of_writeBytes hw ?_ ha⟩
    simp only [wordBytes, List.length_cons, List.length_nil, samplesBase]
    omega
  all_goals exact keepsBatch_of_mem rfl rfl rfl

theorem keepsBatch_hostTurn {s t : State} (h : hostTurn s = .next t) (hw : s.mem.wf = true) : KeepsBatch s t := by
  unfold hostTurn at h
  split at h
  · cases h
    exact keepsBatch_of_mem rfl rfl rfl
  · split at h
    · cases h
      exact keepsBatch_of_mem rfl rfl rfl
    · cases h
  · next off width v rest hhost =>
    split at h
    · cases h
      exact { keepsBatch_hostWrite (s := { s with host := rest }) hw off v with }
    · cases h
  · cases h
    exact keepsBatch_of_mem rfl rfl rfl

theorem keepsBatch_step {s t : State} (h : step s = .next t) (hinv : s.Inv) (hx : s.sstate = .complete)
    (ht : t.sstate = .complete) : KeepsBatch s t := by
  have hturns (ts : List Turn) : ({ s with turns := ts } : State).Inv := { hinv with }
  have hself {ts : List Turn} (hk : KeepsBatch { s with turns := ts } t) : KeepsBatch s t := { hk with }
  unfold step at h
  split at h
  · exact hself (keepsBatch_hostTurn h hinv.memCanonical)
  · exact hself (keepsBatch_sequencerTurn h (hturns _) hx ht)
  · cases h
    cases ht
  · split at h
    · exact keepsBatch_sequencerTurn h hinv hx ht
    · exact keepsBatch_hostTurn h hinv.memCanonical

/-- Settles O55: every event keeps the batch or takes SSTATE away from COMPLETE. -/
theorem completedBatchIsImmutable : Obligations.CompletedBatchIsImmutable := fun _ _ hinv hx h ht =>
  have hkeep := keepsBatch_step h hinv hx ht
  ⟨hkeep.nlat, hkeep.sampCnt, fun k _ => hkeep.sample_eq k⟩

end Sys2Proof.Machine
end

section
/-! PROOF. What one sequencer step does to the step index, the bus and BUSY (43_control.md R202): one walk through the
commands says that it is silent, ends the command, or makes one transaction. The bound on the steps of a command and the
count of its transactions follow from it. -/

namespace Sys2Proof.Machine

open Sys2Proof.Config

/-! ### The fields that steps, transactions and completions are counted in -/

/-- The step index, the latched device, BUSY, DONE, and the record of the transactions. -/
def State.ledger (s : State) :
    Nat × DevAddr × Bool × Bool × List Transaction × Nat × Nat × List SensorAnswer :=
  (s.stepIx, s.dev, s.busy, s.done, s.trace, s.xcount, s.draws, s.sensor)

theorem ledger_eq_iff {s t : State} :
    t.ledger = s.ledger ↔ t.stepIx = s.stepIx ∧ t.dev = s.dev ∧ t.busy = s.busy ∧ t.done = s.done ∧
      t.trace = s.trace ∧ t.xcount = s.xcount ∧ t.draws = s.draws ∧ t.sensor = s.sensor := by
  simp only [State.ledger, Prod.mk.injEq]

theorem raise_ledger (kind : ErrKind) (sub : BitVec 4) (stp : Byte) (code : Half) (s : State) :
    (raise kind sub stp code s).ledger = s.ledger := by
  rw [raise_touches]
  rfl

theorem failAtOnce_ledger (kind : ErrKind) (sub : BitVec 4) (s : State) :
    (failAtOnce kind sub s).ledger = (complete s).ledger := by
  rw [failAtOnce, raise_touches]
  rfl

theorem acqOnStatus_ledger (b : Byte) (s : State) : (acqOnStatus b s).ledger = s.ledger := by
  unfold acqOnStatus
  dsimp only
  split
  · exact raise_ledger _ _ _ _ _
  · split <;> rfl

theorem acqOnBytes_ledger (l : List Byte) (s : State) : (acqOnBytes l s).ledger = s.ledger := by
  rw [acqOnBytes_eq]
  rfl

/-! ### One boundary action (43_control.md R202) -/

/-- The statements of one step led from `s` to `u`: they touched none of these fields, ended the command, or made one
transaction with the latched device, which was answered Ok or Err. -/
inductive OneAction (s u : State) : Prop where
  | silent (h : u.ledger = s.ledger)
  | ended (h : u.ledger = (complete s).ledger)
  | ok (req : BusReq) (l : List Byte) (rest : List SensorAnswer) (hdev : req.dev = s.dev)
      (h : u.ledger = (delivered req l rest s).ledger)
  | err (req : BusReq) (c : Half) (rest : List SensorAnswer) (hdev : req.dev = s.dev)
      (h : u.ledger = (afterTransaction req (.err c) rest s).ledger)

theorem oneAction_complete (s : State) : OneAction s (complete s) := .ended rfl

theorem oneAction_failAtOnce (kind : ErrKind) (sub : BitVec 4) (s : State) : OneAction s (failAtOnce kind sub s) :=
  .ended (failAtOnce_ledger kind sub s)

theorem OneAction.ite {p : Prop} [Decidable p] {s u v : State} (hu : OneAction s u) (hv : OneAction s v) :
    OneAction s (if p then u else v) := by
  split
  · exact hu
  · exact hv

/-- An action may be taken from any state with the same ledger. -/
theorem OneAction.of_ledger_eq {s s' u : State} (e : s'.ledger = s.ledger) (h : OneAction s' u) : OneAction s u := by
  obtain ⟨hstep, hdev, hbusy, hdone, htrace, hxcount, hdraws, hsensor⟩ := ledger_eq_iff.1 e
  cases h with
  | silent h => exact .silent (h.trans e)
  | ended h =>
    exact .ended (h.trans (ledger_eq_iff.2 ⟨hstep, hdev, rfl, rfl, htrace, hxcount, hdraws, hsensor⟩))
  | ok req l rest hreq h =>
    exact .ok req l rest (hreq.trans hdev) (h.trans (ledger_eq_iff.2 ⟨hstep, hdev, hbusy, hdone,
      congrArg (_ :: ·) htrace, congrArg (· + 1) hxcount, congrArg (· + 1) hdraws, rfl⟩))
  | err req c rest hreq h =>
    exact .err req c rest (hreq.trans hdev) (h.trans (ledger_eq_iff.2 ⟨hstep, hdev, hbusy, hdone,
      congrArg (_ :: ·) htrace, hxcount, congrArg (· + 1) hdraws, rfl⟩))

/-- `xfer` of a bus primitive that names the latched device, with statements after it that leave the ledger. -/
theorem oneAction_xfer {α : Type} {t : State → Except Half α × State} {k : α → State → State} {s : State}
    {req : BusReq} (hdev : req.dev = s.dev)
    (ht : ∃ rest, (∃ v l, t s = (.ok v, afterTransaction req (.ok l) rest s)) ∨
      ∃ c, t s = (.error c, afterTransaction req (.err c) rest s))
    (hk : ∀ v u, (k v u).ledger = u.ledger) : OneAction s (xfer t k s) := by
  obtain ⟨rest, ⟨v, l, e⟩ | ⟨c, e⟩⟩ := ht
  · rw [xfer_of_ok e]
    exact .ok req l rest hdev (hk v _)
  · rw [xfer_of_error e]
    exact .err req c rest hdev (raise_ledger _ _ _ _ _)

theorem oneAction_write {k : Unit → State → State} (reg v : Byte) (s : State)
    (hk : ∀ v u, (k v u).ledger = u.ledger := by exact fun _ _ => rfl) : OneAction s (xfer (busWrite reg v) k s) :=
  have ⟨rest, h⟩ := busWrite_cases reg v s
  oneAction_xfer (req := .write s.dev reg v) rfl ⟨rest, h.imp_left fun e => ⟨_, _, e⟩⟩ hk

theorem oneAction_read {k : Byte → State → State} (reg : Byte) (s : State)
    (hk : ∀ b u, (k b u).ledger = u.ledger := by exact fun _ _ => rfl) : OneAction s (xfer (busRead reg) k s) :=
  have ⟨rest, h⟩ := busRead_cases reg s
  oneAction_xfer (req := .read s.dev reg) rfl ⟨rest, h.imp_left fun ⟨_, e⟩ => ⟨_, _, e⟩⟩ hk

theorem oneAction_readBlock {k : List Byte → State → State} (reg : Byte) (n : Nat) (s : State)
    (hk : ∀ l u, (k l u).ledger = u.ledger := by exact fun _ _ => rfl) :
    OneAction s (xfer (busReadBlock reg n) k s) :=
  have ⟨rest, h⟩ := busReadBlock_cases reg n s
  oneAction_xfer (req := .readBlock s.dev reg n) rfl ⟨rest, h.imp_left fun ⟨_, e, _⟩ => ⟨_, _, e⟩⟩ hk

theorem oneAction_drainXfer {k : List Byte → State → State} (s : State) (hk : ∀ l u, (k l u).ledger = u.ledger) :
    OneAction s (drainXfer k s) := by
  unfold drainXfer
  exact oneAction_readBlock _ _ s fun l _ => hk l _

/-! ### The steps of ACQUIRE (42_batch_sampler.md R181) -/

theorem oneAction_acqArm0 (s : State) : OneAction s (acqArm0 s) := by
  unfold acqArm0
  exact oneAction_write _ _ s

theorem oneAction_acqStart (s : State) : OneAction s (acqStart s) :=
  .ite (oneAction_failAtOnce _ _ s)
    (.ite (oneAction_failAtOnce _ _ s) (.of_ledger_eq (s' := startCycle s) rfl (oneAction_acqArm0 _)))

theorem oneAction_acqAbort (s : State) : OneAction s (acqAbort s) := by
  obtain ⟨rest, e | ⟨c, e⟩⟩ := busWrite_cases s.params.A_FIFO_EN s.params.V_FIFO_EN_OFF s <;>
    simp only [acqAbort, e]
  · exact .ok _ [] rest rfl rfl
  · exact .err _ c rest rfl rfl

theorem oneAction_acqIterate (s : State) : OneAction s (acqIterate s) :=
  .ite (oneAction_read _ s acqOnStatus_ledger) (oneAction_drainXfer s acqOnBytes_ledger)

theorem oneAction_acqPhaseStep (p : Phase) (s : State) : OneAction s (acqPhaseStep p s) := by
  cases p with
  | none | start => exact oneAction_acqStart s
  | arm0 => exact oneAction_acqArm0 s
  | arm1 | arm2 | arm3 | finish =>
    simp only [acqPhaseStep, acqArm1, acqArm2, acqArm3, acqFinish]
    exact oneAction_write _ _ s
  | settle => exact .silent rfl
  | poll | drain => exact oneAction_acqIterate s
  | cnth | cntl =>
    simp only [acqPhaseStep, acqCountHigh, acqCountLow]
    exact oneAction_read _ s
  | abort => exact oneAction_acqAbort s
  | doneComplete | idleEnd => exact .ended rfl

/-! ### The steps of the other commands -/

theorem oneAction_ordinaryStep {acts : Nat → State → State} {s t : State} (h : ordinaryStep acts s = .next t)
    (hacts : ∀ n, OneAction s (acts n s)) : ∃ u, t = tick u ∧ OneAction s u := by
  rcases ordinaryStep_cases h with ⟨-, rfl⟩ | ⟨-, rfl⟩
  · exact ⟨_, rfl, .ended rfl⟩
  · exact ⟨_, rfl, hacts s.stepIx⟩

/-- INIT_DONE is cleared before INIT's first transaction (41_sensor_driver.md R130). -/
theorem oneAction_initStart (s : State) : OneAction s (initStart s) :=
  .ite (oneAction_failAtOnce _ _ s)
    (.ite (oneAction_failAtOnce _ _ s) (.of_ledger_eq (s' := { s with initDone := false }) rfl (oneAction_write _ _ _)))

/-- Everything a step of any command does to the ledger: one action, then the step index grows. -/
theorem exec_oneAction {i : Instr} {s t : State} (h : exec i s = .next t) : ∃ u, t = tick u ∧ OneAction s u := by
  have hdone := oneAction_complete s
  unfold exec at h
  cases i with
  | nop => exact oneAction_ordinaryStep h fun _ => hdone
  | wrreg reg data =>
    exact oneAction_ordinaryStep h fun
      | 0 => oneAction_write reg data s
      | _ + 1 => hdone
  | rdreg reg =>
    exact oneAction_ordinaryStep h fun
      | 0 => oneAction_read reg s
      | _ + 1 => hdone
  | rdblk reg len =>
    exact oneAction_ordinaryStep h fun
      | 0 => .ite (oneAction_readBlock reg _ s) (oneAction_failAtOnce _ _ s)
      | _ + 1 => hdone
  | init =>
    exact oneAction_ordinaryStep h fun
      | 0 => oneAction_initStart s
      | 1 => .silent rfl
      | 2 | 3 | 4 | 5 => oneAction_write _ _ s
      | _ + 6 => hdone
  | fifoOn =>
    exact oneAction_ordinaryStep h fun
      | 0 | 1 | 2 | 3 => oneAction_write _ _ s
      | _ + 4 => hdone
  | fifoOff =>
    exact oneAction_ordinaryStep h fun
      | 0 => oneAction_write _ _ s
      | _ + 1 => hdone
  | fifoReset =>
    exact oneAction_ordinaryStep h fun
      | 0 | 1 | 2 => oneAction_write _ _ s
      | _ + 3 => hdone
  | rdstatus =>
    exact oneAction_ordinaryStep h fun
      | 0 => oneAction_read _ s
      | _ + 1 => hdone
  | rdcount =>
    exact oneAction_ordinaryStep h fun
      | 0 | 1 => oneAction_read _ s
      | _ + 2 => hdone
  | drain =>
    exact oneAction_ordinaryStep h fun
      | 0 => .ite (.ended rfl) (oneAction_drainXfer s fun _ _ => rfl)
      | _ + 1 => hdone
  | decodeFrame len =>
    exact oneAction_ordinaryStep h fun
      | 0 => .ite (.ended rfl) (oneAction_failAtOnce _ _ s)
      | _ + 1 => hdone
  | acquire =>
    cases h
    exact ⟨_, rfl, oneAction_acqPhaseStep s.phase s⟩

/-- No action moves the step index; its step does. -/
theorem OneAction.stepIx_eq {s u : State} (h : OneAction s u) : u.stepIx = s.stepIx := by
  cases h with
  | silent h | ended h | ok _ _ _ _ h | err _ _ _ _ h => exact (ledger_eq_iff.1 h).1

/-- Settles O49: the action is none, a completion, or a transaction answered Ok or Err. -/
theorem oneTransactionPerStep : Obligations.OneTransactionPerStep := by
  intro i s t h
  obtain ⟨u, rfl, hu⟩ := exec_oneAction h
  refine ⟨congrArg (· + 1) hu.stepIx_eq, ?_⟩
  cases hu with
  | silent h | ended h =>
    obtain ⟨-, -, -, -, htrace, hxcount, hdraws, hsensor⟩ := ledger_eq_iff.1 h
    exact .inl ⟨htrace, hxcount, hdraws, hsensor⟩
  | ok req l rest hdev h =>
    obtain ⟨-, -, -, -, htrace, hxcount, hdraws, -⟩ := ledger_eq_iff.1 h
    exact .inr ⟨⟨req, .ok l⟩, htrace, hdev, hdraws, .inl ⟨l, rfl, hxcount⟩⟩
  | err req c rest hdev h =>
    obtain ⟨-, -, -, -, htrace, hxcount, hdraws, -⟩ := ledger_eq_iff.1 h
    exact .inr ⟨⟨req, .err c⟩, htrace, hdev, hdraws, .inr ⟨c, rfl, hxcount⟩⟩

/-! ### The number of steps of a command (43_control.md R205, R206) -/

/-- At most `n` steps of command `i`, and at least one, lead from `s` to its completion. -/
def CompletesWithin (n : Nat) (i : Instr) (s : State) : Prop :=
  ∃ (k : Nat) (t : State), 1 ≤ k ∧ k ≤ n ∧ execN k i s = .next t ∧ t.busy = false ∧ t.done = true

theorem completesWithin_of_ended {n : Nat} {i : Instr} {s t : State} (h : exec i s = .next t) (hb : t.busy = false)
    (hd : t.done = true) : CompletesWithin (n + 1) i s :=
  ⟨1, t, le_rfl, Nat.le_add_left 1 n, by simp only [execN, h], hb, hd⟩

theorem CompletesWithin.step {n : Nat} {i : Instr} {s t : State} (h : exec i s = .next t) :
    CompletesWithin n i t → CompletesWithin (n + 1) i s
  | ⟨k, t', _, hk, e, hend⟩ =>
    ⟨k + 1, t', Nat.le_add_left 1 k, Nat.succ_le_succ hk, by simpa only [execN, h] using e, hend⟩

/-- INIT, the longest of them, completes at step index 6 (R205); every command but ACQUIRE has no other action there. -/
theorem exec_at_last_stepIx {i : Instr} {s : State} (hi : i ≠ .acquire) (h : s.stepIx = 6) :
    exec i s = .next (ended s) := by
  cases hf : s.failed with
  | true => exact exec_of_failed hi hf
  | false =>
    have hrun {acts : Nat → State → State} (hacts : acts 6 s = complete s) :
        ordinaryStep acts s = .next (ended s) := by
      rw [ordinaryStep_of_running hf, h, hacts]
      rfl
    unfold exec
    cases i with
    | acquire => exact absurd rfl hi
    | _ => exact hrun rfl

/-- With `m` step indices left before 6, a step ends the command or leaves one less. -/
theorem completesWithin_of_stepIx {i : Instr} (hi : i ≠ .acquire) {m : Nat} {s : State} (h : s.stepIx + m = 6) :
    CompletesWithin (m + 1) i s := by
  induction m generalizing s with
  | zero => exact completesWithin_of_ended (exec_at_last_stepIx hi h) rfl rfl
  | succ m ih =>
    obtain ⟨t, ht⟩ := exec_next i s
    obtain ⟨u, rfl, hu⟩ := exec_oneAction ht
    have hnext : CompletesWithin (m + 2) i s :=
      .step ht (ih (by rw [tick_stepIx, hu.stepIx_eq]; omega))
    cases hu with
    | ended h =>
      obtain ⟨-, -, hb, hd, -⟩ := ledger_eq_iff.1 h
      exact completesWithin_of_ended ht hb hd
    | silent | ok | err => exact hnext

/-- Settles O35: acceptance leaves the step index at 0, six before the last. -/
theorem commandsCompleteInSevenSteps : Obligations.CommandsCompleteInSevenSteps :=
  fun _ _ hi ⟨_, _, _, h0, _⟩ => completesWithin_of_stepIx hi (m := 6) (by rw [h0])

end Sys2Proof.Machine
end

section
/-! PROOF. Whose event comes next, acceptance, and NOP (43_control.md R200 to R203, 20_memory.md R73). -/

namespace Sys2Proof.Machine

open Sys2Proof.Config

/-! ### The two turns (43_control.md R202, 20_memory.md R73) -/

theorem sequencerTurn_of_command {s : State} {i : Instr} (hb : s.busy = true) (hd : decode s.cmd = .ok i) :
    sequencerTurn s = exec i s := by
  simp only [sequencerTurn, hb, hd, if_true]

theorem sequencerTurn_of_idle {s : State} (hb : s.busy = false) : sequencerTurn s = .next s := by
  simp [sequencerTurn, hb]

theorem hostTurn_of_nil {s : State} (h : s.host = []) : hostTurn s = .next s := by
  simp only [hostTurn, h]

theorem step_of_sequencer {s : State} {ts : List Turn} (h : s.turns = .sequencer :: ts) :
    step s = sequencerTurn { s with turns := ts } := by
  simp only [step, h]

theorem step_of_host {s : State} {ts : List Turn} (h : s.turns = .host :: ts) :
    step s = hostTurn { s with turns := ts } := by
  simp only [step, h]

theorem step_of_no_turn {s : State} (h : s.turns = []) : step s = if s.busy then sequencerTurn s else hostTurn s := by
  simp only [step, h]

theorem step_of_busy {s : State} (hb : s.busy = true) (h : s.turns = []) : step s = sequencerTurn s :=
  (step_of_no_turn h).trans (if_pos hb)

theorem step_of_idle {s : State} (hb : s.busy = false) (h : s.turns = []) : step s = hostTurn s :=
  (step_of_no_turn h).trans (if_neg (Bool.eq_false_iff.1 hb))

/-- Settles O8: the turn's agent moves, and the sequencer's move is the command's step while BUSY. -/
theorem stepRunsTheAcceptedCommand : Obligations.StepRunsTheAcceptedCommand := fun _ _ _ =>
  ⟨fun hb hd h => (step_of_sequencer h).trans (sequencerTurn_of_command hb hd),
    fun hb hd h => (step_of_busy hb h).trans (sequencerTurn_of_command hb hd),
    fun hb h => (step_of_sequencer h).trans (sequencerTurn_of_idle hb),
    step_of_sequencer, step_of_busy, step_of_host, step_of_idle, hostTurn_of_nil⟩

/-! ### Acceptance and NOP (43_control.md R200, R201) -/

/-- Settles O9: CMD is one of the registers guarded while BUSY, and else the write is the acceptance. -/
theorem commandAcceptance : Obligations.CommandAcceptance := by
  refine fun s w => ⟨fun hb => busyWritesAreRejected s 0x004 w hb (.inl rfl), fun hb => ?_⟩
  rw [hostWrite_command_of_idle hb]
  rfl

/-- Settles O20: the completion is NOP's one statement. -/
theorem nopCompletes : Obligations.NopCompletes := fun _ he =>
  (ordinaryStep_complete he rfl rfl : execNop _ = _)

end Sys2Proof.Machine
end

section
/-! PROOF. What becomes of an error once it is raised: it stays in ERRINFO until its command ends, and in a cycle of
ACQUIRE the abort follows it (60_exceptions.md R213 to R218). No event stops the machine (R223). -/

namespace Sys2Proof.Machine

open Sys2Proof.Config

/-! ### No fault, one refusal (60_exceptions.md R223, 20_memory.md R63) -/

theorem sequencerTurn_next (s : State) : ∃ t, sequencerTurn s = .next t := by
  unfold sequencerTurn
  split
  · split
    · next i _ => exact exec_next i s
    · exact ⟨_, rfl⟩
  · exact ⟨s, rfl⟩

theorem hostTurn_poll {s : State} {rest : List HostStmt} (h : s.host = .poll :: rest) :
    hostTurn s = .next { s with
      loads := s.statusWord :: s.loads, host := if s.statusWord.getLsbD 0 then s.host else rest } := by
  simp only [hostTurn, h]

/-- The host's next statement is an access of a width or alignment that 20_memory.md R63 excludes. -/
def State.AtUnsupportedAccess (s : State) : Prop :=
  ∃ (off : Offset) (width : Nat) (rest : List HostStmt), (width ≠ 4 ∨ off.toNat % 4 ≠ 0) ∧
    (s.host = .ld off width :: rest ∨ ∃ v, s.host = .st off width v :: rest)

/-- Everything the host's turn can answer. -/
theorem hostTurn_cases (s : State) :
    (∃ t, hostTurn s = .next t) ∨ (hostTurn s = .refused .unsupportedHostAccess ∧ s.AtUnsupportedAccess) := by
  rcases hhost : s.host with _ | ⟨_ | _ | _, rest⟩
  case nil => exact .inl ⟨s, hostTurn_of_nil hhost⟩
  case cons.ld off width =>
    rw [hostTurn_ld hhost]
    split
    · exact .inl ⟨_, rfl⟩
    · next hbad => exact .inr ⟨rfl, off, width, rest, (unsupportedAccess_iff _ _).1 hbad, .inl hhost⟩
  case cons.st off width v =>
    rw [hostTurn_st hhost]
    split
    · exact .inl ⟨_, rfl⟩
    · next hbad => exact .inr ⟨rfl, off, width, rest, (unsupportedAccess_iff _ _).1 hbad, .inr ⟨v, hhost⟩⟩
  case cons.poll => exact .inl ⟨_, hostTurn_poll hhost⟩

/-- Settles O48: only the host's turn can refuse, and the reset and the sequencer always go on. -/
theorem onlyUnsupportedAccessesAreRefused : Obligations.OnlyUnsupportedAccessesAreRefused := by
  intro s
  unfold step
  split
  · next ts _ => exact hostTurn_cases { s with turns := ts }
  · exact .inl (sequencerTurn_next _)
  · exact .inl ⟨_, rfl⟩
  · split
    · exact .inl (sequencerTurn_next s)
    · exact hostTurn_cases s

/-! ### The abort (60_exceptions.md R215, R216) -/

theorem exec_acquire_abort_of_ok {s : State} {l : List Byte} {rest : List SensorAnswer} (hp : s.phase = .abort)
    (hs : s.sensor = .ok l :: rest) :
    exec .acquire s = .next
      { afterOk (.write s.dev s.params.A_FIFO_EN s.params.V_FIFO_EN_OFF) [] rest s with
        sstate := .idle, phase := .idleEnd } := by
  rw [exec_acquire_at hp, acqPhaseStep, acqAbort, busWrite_of_ok hs]
  rfl

theorem exec_acquire_abort_of_err {s : State} {c : Half} {rest : List SensorAnswer} (hp : s.phase = .abort)
    (hs : s.sensor = .err c :: rest) :
    exec .acquire s = .next
      { afterErr (.write s.dev s.params.A_FIFO_EN s.params.V_FIFO_EN_OFF) c rest s with
        fifoDisableFailed := true, sstate := .idle, phase := .idleEnd } := by
  rw [exec_acquire_at hp, acqPhaseStep, acqAbort, busWrite_of_err hs]
  rfl

/-- Settles O42: the disable write with its two answers. -/
theorem acquireAborts : Obligations.AcquireAborts := fun _ _ hp =>
  ⟨fun _ => exec_acquire_abort_of_ok hp, fun _ => exec_acquire_abort_of_err hp⟩

/-! ### The first error is kept (60_exceptions.md R218, R224) -/

/-- The abort raises no error of its own, whatever its write answers (60_exceptions.md R216). -/
theorem acqAbort_errInfo (s : State) : (acqAbort s).errInfo = s.errInfo := by
  obtain ⟨rest, e | ⟨c, e⟩⟩ := busWrite_cases s.params.A_FIFO_EN s.params.V_FIFO_EN_OFF s <;> simp only [acqAbort, e]
  · rfl
  · rfl

/-- An ACQUIRE with an error pending is at its abort or at its error completion. -/
theorem exec_acquire_errInfo_of_failed {s t : State} (h : s.Inv) (hf : s.failed = true) (hn : s.phase ≠ .none)
    (e : exec .acquire s = .next t) : t.errInfo = s.errInfo := by
  rcases h.failedCycle hf with hp | hp | hp
  · exact absurd hp hn
  · rw [exec_acquire_at hp] at e
    cases e
    exact acqAbort_errInfo s
  · rw [exec_acquire_idleEnd hp] at e
    cases e
    rfl

/-- Settles O34: after its error a command has no step left but the error completion and, in ACQUIRE, the abort. -/
theorem firstErrorIsKept : Obligations.FirstErrorIsKept := by
  intro i s t hinv hb hd herr h
  have hf : s.failed = true := failed_of_kind herr
  by_cases hi : i = .acquire
  · subst hi
    exact exec_acquire_errInfo_of_failed hinv hf (hinv.acquireHasPhase hb hd) h
  · rw [exec_of_failed hi hf] at h
    cases h
    rfl

/-! ### A failed transaction of a cycle (60_exceptions.md R213, R215) -/

/-- Before the completion write BusError goes on to the abort. -/
theorem busError_of_beforeFinish {c : Half} {s : State} (h : s.phase.beforeFinish = true) :
    busError c s = { recorded .bus 0 (BitVec.ofNat 8 (min s.xcount 255)) c s with phase := .abort } :=
  raise_of_inCycle (Phase.inCycle_of_beforeFinish h) (Phase.ne_finish_of_beforeFinish h)

theorem acqOnStatus_trace (b : Byte) (s : State) : (acqOnStatus b s).trace = s.trace := by
  obtain ⟨-, -, -, -, htrace, -⟩ := ledger_eq_iff.1 (acqOnStatus_ledger b s)
  exact htrace

theorem acqOnBytes_trace (l : List Byte) (s : State) : (acqOnBytes l s).trace = s.trace := by
  rw [acqOnBytes_eq]

theorem stopsAtBusError_acqIterate (s : State) : StopsAtBusError s (acqIterate s) :=
  .ite (stopsAtBusError_xfer (transacts_busRead _) acqOnStatus_trace)
    (stopsAtBusError_xfer (transacts_busReadBlock _ _) fun _ _ => acqOnBytes_trace _ _)

theorem stopsAtBusError_acqPhaseStep {p : Phase} (hp : p.beforeFinish = true) (s : State) :
    StopsAtBusError s (acqPhaseStep p s) := by
  cases p with
  | none | start | finish | doneComplete | abort | idleEnd => cases hp
  | arm0 | arm1 | arm2 | arm3 => exact stopsAtBusError_xfer (transacts_busWrite _ _) fun _ _ => rfl
  | settle => exact .of_no_transaction rfl
  | poll | drain => exact stopsAtBusError_acqIterate s
  | cnth | cntl => exact stopsAtBusError_xfer (transacts_busRead _) fun _ _ => rfl

/-- The start checks make no transaction; the first arming write follows the start of cycle (42_batch_sampler.md
R172). -/
theorem stopsAtBusError_acqStart (s : State) : StopsAtBusError (startCycle s) (acqStart s) :=
  .ite (.of_no_transaction (failAtOnce_trace _ _ s))
    (.ite (.of_no_transaction (failAtOnce_trace _ _ s))
      (stopsAtBusError_xfer (transacts_busWrite _ _) fun _ _ => rfl))

/-- A write that the trace shows to have failed is the one that was issued. -/
theorem req_of_failed_write {reg v : Byte} {k : Unit → State → State} {s : State} {req : BusReq} {c : Half}
    (hk : ∀ u, (k () u).trace = u.trace) (h : (xfer (busWrite reg v) k s).trace = ⟨req, .err c⟩ :: s.trace) :
    req = .write s.dev reg v := by
  obtain ⟨rest, e | ⟨c', e⟩⟩ := xfer_busWrite_cases reg v k s <;> rw [e] at h
  · injection (hk _).symm.trans h with hx
    injection hx with _ hans
    cases hans
  · injection (busError_trace c' _).symm.trans h with hx
    injection hx with hreq _
    exact hreq.symm

theorem req_of_failed_acqStart {s : State} {req : BusReq} {c : Half}
    (h : (acqStart s).trace = ⟨req, .err c⟩ :: s.trace) :
    req = .write s.dev s.params.A_USER_CTRL s.params.V_UC_OFF := by
  have hcheck (kind : ErrKind) (sub : BitVec 4) : (failAtOnce kind sub s).trace ≠ ⟨req, .err c⟩ :: s.trace := fun e =>
    List.cons_ne_self _ _ (e.symm.trans (failAtOnce_trace kind sub s))
  unfold acqStart at h
  split at h
  · exact absurd h (hcheck _ _)
  · split at h
    · exact absurd h (hcheck _ _)
    · exact req_of_failed_write (s := startCycle s) (fun _ => rfl) h

/-- Settles O43: the step's statements stop at BusError in the state the transaction was made in, which in START is the
start of cycle. -/
theorem acquireBusErrorGoesToAbort : Obligations.AcquireBusErrorGoesToAbort := by
  intro s t req c h htr
  refine ⟨fun hp => ?_, fun hp => ?_⟩
  · cases h
    have hbus := stopsAtBusError_acqPhaseStep hp s req c htr
    rw [busError_of_beforeFinish (s := afterTransaction req (.err c) _ s) hp] at hbus
    exact congrArg tick hbus
  · rw [exec_acquire_at hp] at h
    cases h
    have hbus := stopsAtBusError_acqStart s req c htr
    rw [busError_of_beforeFinish (s := afterTransaction req (.err c) _ (startCycle s)) rfl] at hbus
    exact ⟨req_of_failed_acqStart htr, congrArg tick hbus⟩

end Sys2Proof.Machine
end

section
/-! PROOF. Which errors each command can raise (60_exceptions.md R212): the table as a relation, and one walk through
the commands that says a step records no other. -/

namespace Sys2Proof.Machine

open Sys2Proof.Config

/-! ### The table (60_exceptions.md R212) -/

/-- The errors that command `i` can raise after `n` transactions that succeeded, one constructor for each cause. -/
inductive ErrorCause (n : Nat) : Instr → ErrInfo → Prop
  | bus {i : Instr} (hnop : i ≠ .nop) (hdecode : ∀ len, i ≠ .decodeFrame len) (c : Half) :
    ErrorCause n i ⟨.bus, 0, BitVec.ofNat 8 (min n 255), c⟩
  | illegalRange : ErrorCause n .init ⟨.configuration, 1, 0, 0⟩
  | zeroRate : ErrorCause n .init ⟨.configuration, 2, 0, 0⟩
  | blockLength (reg len : Byte) : ErrorCause n (.rdblk reg len) ⟨.illegalCommand, 3, 0, 0⟩
  | frameLength {len : Byte} (hlen : len ≠ 6) : ErrorCause n (.decodeFrame len) ⟨.framing, 0, 0, 0⟩
  | notInitialized : ErrorCause n .acquire ⟨.notInitialized, 0, 0, 0⟩
  | illegalBatch : ErrorCause n .acquire ⟨.configuration, 3, 0, 0⟩
  | overflow : ErrorCause n .acquire ⟨.fifoOverflow, 0, 0, 0⟩

/-- The statements of one step of command `i` led from `s` to `u` and recorded no error, or one that the table gives the
command. -/
def RaisesOnly (i : Instr) (s u : State) : Prop :=
  u.errInfo = s.errInfo ∨ ErrorCause s.xcount i u.errInfo

theorem raisesOnly_complete (i : Instr) (s : State) : RaisesOnly i s (complete s) := .inl rfl

theorem raisesOnly_failAtOnce {i : Instr} {kind : ErrKind} {sub : BitVec 4} {s : State}
    (h : ErrorCause s.xcount i ⟨kind, sub, 0, 0⟩) : RaisesOnly i s (failAtOnce kind sub s) := by
  refine .inr ?_
  rw [failAtOnce, errorComplete_errInfo, raise_errInfo]
  exact h

theorem RaisesOnly.ite {p : Prop} [Decidable p] {i : Instr} {s u v : State} (hu : p → RaisesOnly i s u)
    (hv : ¬ p → RaisesOnly i s v) : RaisesOnly i s (if p then u else v) := by
  split
  · next h => exact hu h
  · next h => exact hv h

/-- `xfer` of a bus primitive: BusError with the count of the transactions before it, or what the statements after an Ok
record. -/
theorem raisesOnly_xfer {α : Type} {Q : α → Prop} {t : State → Except Half α × State} (ht : Transacts Q t) {i : Instr}
    {k : α → State → State} {s : State}
    (hk : ∀ v u, u.errInfo = s.errInfo → RaisesOnly i s (k v u) := by exact fun _ _ h => .inl h)
    (hnop : i ≠ .nop := by nofun) (hdecode : ∀ len, i ≠ .decodeFrame len := by nofun) :
    RaisesOnly i s (xfer t k s) := by
  obtain ⟨req, rest, ⟨v, l, e, -⟩ | ⟨c, e⟩⟩ := ht.xfer_cases k s <;> rw [e]
  · exact hk v _ rfl
  · refine .inr ?_
    rw [busError, raise_errInfo]
    exact .bus hnop hdecode c

theorem raisesOnly_ordinaryStep {i : Instr} {acts : Nat → State → State} {s t : State}
    (h : ordinaryStep acts s = .next t) (hacts : ∀ n, RaisesOnly i s (acts n s)) : RaisesOnly i s t := by
  rcases ordinaryStep_cases h with ⟨-, rfl⟩ | ⟨-, rfl⟩
  · exact .inl rfl
  · exact hacts s.stepIx

/-! ### The steps of the commands -/

/-- INIT's validation (41_sensor_driver.md R131), then its first write. -/
theorem raisesOnly_initStart (s : State) : RaisesOnly .init s (initStart s) :=
  .ite (fun _ => raisesOnly_failAtOnce .illegalRange) fun _ =>
    .ite (fun _ => raisesOnly_failAtOnce .zeroRate) fun _ =>
      raisesOnly_xfer (s := { s with initDone := false }) (transacts_busWrite _ _)

/-- ACQUIRE's start checks (42_batch_sampler.md R171), then its first arming write. -/
theorem raisesOnly_acqStart (s : State) : RaisesOnly .acquire s (acqStart s) :=
  .ite (fun _ => raisesOnly_failAtOnce .notInitialized) fun _ =>
    .ite (fun _ => raisesOnly_failAtOnce .illegalBatch) fun _ =>
      raisesOnly_xfer (s := startCycle s) (transacts_busWrite _ _)

/-- The overflow bit of a status byte (42_batch_sampler.md R176). -/
theorem raisesOnly_acqOnStatus {s u : State} (b : Byte) (h : u.errInfo = s.errInfo) :
    RaisesOnly .acquire s (acqOnStatus b u) := by
  refine .ite (fun _ => .inr ?_) fun _ => .ite (fun _ => .inl h) fun _ => .inl h
  rw [raise_errInfo]
  exact .overflow

theorem raisesOnly_acqOnBytes {s u : State} (l : List Byte) (h : u.errInfo = s.errInfo) :
    RaisesOnly .acquire s (acqOnBytes l u) := by
  rw [acqOnBytes_eq]
  exact .inl h

theorem raisesOnly_acqIterate (s : State) : RaisesOnly .acquire s (acqIterate s) :=
  .ite (fun _ => raisesOnly_xfer (transacts_busRead _) fun b _ => raisesOnly_acqOnStatus b) fun _ =>
    raisesOnly_xfer (transacts_busReadBlock _ _) fun l u h =>
      raisesOnly_acqOnBytes (u := { u with fifoCnt := u.fifoCnt - BitVec.ofNat 16 l.length }) l h

theorem raisesOnly_acqPhaseStep (p : Phase) (s : State) : RaisesOnly .acquire s (acqPhaseStep p s) := by
  cases p with
  | none | start => exact raisesOnly_acqStart s
  | arm0 | arm1 | arm2 | arm3 | finish => exact raisesOnly_xfer (transacts_busWrite _ _)
  | settle => exact .inl rfl
  | poll | drain => exact raisesOnly_acqIterate s
  | cnth | cntl => exact raisesOnly_xfer (transacts_busRead _)
  | abort => exact .inl (acqAbort_errInfo s)
  | doneComplete | idleEnd => exact .inl rfl

/-- Every step of a command records no error, or one that the table gives the command. -/
theorem exec_raisesOnly {i : Instr} {s t : State} (h : exec i s = .next t) : RaisesOnly i s t := by
  have hdone := raisesOnly_complete i s
  unfold exec at h
  cases i with
  | nop => exact raisesOnly_ordinaryStep h fun _ => hdone
  | wrreg reg data =>
    exact raisesOnly_ordinaryStep h fun
      | 0 => raisesOnly_xfer (transacts_busWrite reg data)
      | _ + 1 => hdone
  | rdreg reg =>
    exact raisesOnly_ordinaryStep h fun
      | 0 => raisesOnly_xfer (transacts_busRead reg)
      | _ + 1 => hdone
  | rdblk reg len =>
    exact raisesOnly_ordinaryStep h fun
      | 0 => .ite (fun _ => raisesOnly_xfer (transacts_busReadBlock reg _)) fun _ =>
          raisesOnly_failAtOnce (.blockLength reg len)
      | _ + 1 => hdone
  | init =>
    exact raisesOnly_ordinaryStep h fun
      | 0 => raisesOnly_initStart s
      | 1 => .inl rfl
      | 2 | 3 | 4 | 5 => raisesOnly_xfer (transacts_busWrite _ _)
      | _ + 6 => hdone
  | fifoOn =>
    exact raisesOnly_ordinaryStep h fun
      | 0 | 1 | 2 | 3 => raisesOnly_xfer (transacts_busWrite _ _)
      | _ + 4 => hdone
  | fifoOff =>
    exact raisesOnly_ordinaryStep h fun
      | 0 => raisesOnly_xfer (transacts_busWrite _ _)
      | _ + 1 => hdone
  | fifoReset =>
    exact raisesOnly_ordinaryStep h fun
      | 0 | 1 | 2 => raisesOnly_xfer (transacts_busWrite _ _)
      | _ + 3 => hdone
  | rdstatus =>
    exact raisesOnly_ordinaryStep h fun
      | 0 => raisesOnly_xfer (transacts_busRead _)
      | _ + 1 => hdone
  | rdcount =>
    exact raisesOnly_ordinaryStep h fun
      | 0 | 1 => raisesOnly_xfer (transacts_busRead _)
      | _ + 2 => hdone
  | drain =>
    exact raisesOnly_ordinaryStep h fun
      | 0 => .ite (fun _ => .inl rfl) fun _ => raisesOnly_xfer (transacts_busReadBlock _ _)
      | _ + 1 => hdone
  | decodeFrame len =>
    exact raisesOnly_ordinaryStep h fun
      | 0 => .ite (fun _ => .inl rfl) fun hlen =>
          raisesOnly_failAtOnce (.frameLength fun e => hlen (congrArg BitVec.toNat e))
      | _ + 1 => hdone
  | acquire =>
    cases h
    exact raisesOnly_acqPhaseStep s.phase s

/-- Settles O33: an error that was not pending before is one of the table. -/
theorem errorCauseTable : Obligations.ErrorCauseTable := by
  intro i s t hzero h hkind
  rcases exec_raisesOnly h with hkeep | hcause
  · exact absurd (congrArg ErrInfo.kind (hkeep.trans hzero)) hkind
  · generalize t.errInfo = e at hcause ⊢
    cases hcause with
    | bus hnop hdecode c => exact .inl ⟨rfl, rfl, rfl, hnop, hdecode⟩
    | illegalRange => exact .inr (.inl ⟨rfl, .inl rfl⟩)
    | zeroRate => exact .inr (.inl ⟨rfl, .inr rfl⟩)
    | blockLength reg len => exact .inr (.inr (.inl ⟨reg, len, rfl, rfl⟩))
    | frameLength hlen => exact .inr (.inr (.inr (.inl ⟨_, rfl, hlen, rfl⟩)))
    | notInitialized => exact .inr (.inr (.inr (.inr ⟨rfl, .inl rfl⟩)))
    | illegalBatch => exact .inr (.inr (.inr (.inr ⟨rfl, .inr (.inl rfl)⟩)))
    | overflow => exact .inr (.inr (.inr (.inr ⟨rfl, .inr (.inr rfl)⟩)))

end Sys2Proof.Machine
end

section
/-! PROOF. The block reset (70_reset_and_hazards.md R240 to R243): what the host reads after it, and that the turn is
nothing but the reset. -/

namespace Sys2Proof.Machine

/-! ### What the window reads after a reset (70_reset_and_hazards.md R241) -/

/-- The gate of the SAMPLES range is shut while no batch is complete (10_state.md R46). -/
theorem samplesWord_of_not_complete {s : State} (h : s.sstate ≠ .complete) (o : Nat) : samplesWord s o = 0 :=
  if_neg fun hgate => h hgate.1

theorem readWord_nil (a : Nat) : Memory.readWord [] a = 0 :=
  (by decide : (0 : Byte) ++ (0 : Byte) ++ (0 : Byte) ++ (0 : Byte) = (0 : Word))

/-- The branches of the map below ID: fourteen registers, DATABUF over the empty memory, SAMPLES behind its shut gate,
and the reserved offsets. -/
theorem windowWord_reset {o : Nat} (ho : o ≠ 0) : windowWord State.reset o = 0 := by
  unfold windowWord
  rw [if_neg ho]
  iterate 14 refine ite_eq_iff'.2 ⟨fun _ => by decide, fun _ => ?_⟩
  exact ite_eq_iff'.2 ⟨fun _ => readWord_nil o, fun _ =>
    ite_eq_iff'.2 ⟨fun _ => samplesWord_of_not_complete (by decide) _, fun _ => rfl⟩⟩

/-- What a block reset leaves (log 15) is nothing that the window shows. -/
theorem hostRead_blockReset (off : Offset) (s : State) : hostRead off (blockReset s) = hostRead off State.reset := rfl

/-- Settles O18: what the host reads is told over the map, and the internal elements are those of `State.reset`. -/
theorem resetValues : Obligations.ResetValues := by
  refine fun s => ⟨rfl, fun off _ hne => ?_, rfl, rfl, rfl, rfl, rfl, rfl, rfl, inv_blockReset s⟩
  rw [hostRead_blockReset]
  exact windowWord_reset fun h => hne (BitVec.eq_of_toNat_eq h)

/-! ### The reset's turn (70_reset_and_hazards.md R240, R242, R243) -/

theorem step_of_reset {s : State} {ts : List Turn} (h : s.turns = .reset :: ts) :
    step s = .next (blockReset { s with turns := ts }) := by
  simp only [step, h]

/-- Settles O19: the turn is the block reset, whatever the command was doing. -/
theorem resetAbandonsTheCommand : Obligations.ResetAbandonsTheCommand := fun _ _ h => step_of_reset h

end Sys2Proof.Machine
end
